-- ==== Sys2Proof/Word.lean ====
section
/-! DEFINITION. The words the MJ-440's links and clocks carry, and the fixed-size tables of like things (four
chains, eight arc lines, three slots). Byte order on both serial links: scope file, section 5.3. -/

namespace Sys2Proof

/-- A byte of the control link, of the nonvolatile array or of a profile image. -/
abbrev Byte := BitVec 8

/-- A 16-bit word: one word of a sample frame, a CRC, a capture sequence number. -/
abbrev Word16 := BitVec 16

/-- A 32-bit count that wraps: the site clock in ms (scope 5.1) and the tracker time in units of 10 µs (R128). -/
abbrev Word32 := BitVec 32

/-- A chain number, 0 to 3. -/
abbrev ChainNo := Fin 4

/-- One value for each of the four chains. -/
structure Quad (α : Type) where
  q0 : α
  q1 : α
  q2 : α
  q3 : α
  deriving DecidableEq, Repr

/-- The value of chain `c`. -/
def Quad.get {α : Type} (q : Quad α) (c : ChainNo) : α :=
  match c with
  | 0 => q.q0
  | 1 => q.q1
  | 2 => q.q2
  | 3 => q.q3

/-- The table with chain `c`'s value replaced. -/
def Quad.set {α : Type} (q : Quad α) (c : ChainNo) (a : α) : Quad α :=
  match c with
  | 0 => { q with q0 := a }
  | 1 => { q with q1 := a }
  | 2 => { q with q2 := a }
  | 3 => { q with q3 := a }

/-- The same value for every chain. -/
def Quad.fill {α : Type} (a : α) : Quad α := ⟨a, a, a, a⟩

/-- Every chain's value changed alike. -/
def Quad.map {α β : Type} (f : α → β) (q : Quad α) : Quad β := ⟨f q.q0, f q.q1, f q.q2, f q.q3⟩

/-- One value made for each chain from its number. -/
def Quad.ofFn {α : Type} (f : ChainNo → α) : Quad α := ⟨f 0, f 1, f 2, f 3⟩

/-- The four values in chain order. -/
def Quad.toList {α : Type} (q : Quad α) : List α := [q.q0, q.q1, q.q2, q.q3]

/-- One value for each of the eight arc lines: lines 0 to 3, then lines 4 to 7. -/
structure Oct (α : Type) where
  lo : Quad α
  hi : Quad α
  deriving DecidableEq, Repr

/-- The quad position of arc line `k` within its half. -/
def octPlace (k : Fin 8) : ChainNo := ⟨k.val % 4, Nat.mod_lt _ (by decide)⟩

/-- The value of line `k`. -/
def Oct.get {α : Type} (o : Oct α) (k : Fin 8) : α :=
  if k.val < 4 then o.lo.get (octPlace k) else o.hi.get (octPlace k)

/-- The table with line `k`'s value replaced. -/
def Oct.set {α : Type} (o : Oct α) (k : Fin 8) (a : α) : Oct α :=
  if k.val < 4 then { o with lo := o.lo.set (octPlace k) a } else { o with hi := o.hi.set (octPlace k) a }

/-- The same value for every line. -/
def Oct.fill {α : Type} (a : α) : Oct α := ⟨Quad.fill a, Quad.fill a⟩

/-- Every line's value changed alike. -/
def Oct.map {α β : Type} (f : α → β) (o : Oct α) : Oct β := ⟨o.lo.map f, o.hi.map f⟩

/-- The eight values in line order. -/
def Oct.toList {α : Type} (o : Oct α) : List α := o.lo.toList ++ o.hi.toList

/-- One value for each of the three profile slots. -/
structure Trio (α : Type) where
  t0 : α
  t1 : α
  t2 : α
  deriving DecidableEq, Repr

/-- The value of slot `k`. -/
def Trio.get {α : Type} (t : Trio α) (k : Fin 3) : α :=
  match k with
  | 0 => t.t0
  | 1 => t.t1
  | 2 => t.t2

/-- The table with slot `k`'s value replaced. -/
def Trio.set {α : Type} (t : Trio α) (k : Fin 3) (a : α) : Trio α :=
  match k with
  | 0 => { t with t0 := a }
  | 1 => { t with t1 := a }
  | 2 => { t with t2 := a }

/-- The same value for every slot. -/
def Trio.fill {α : Type} (a : α) : Trio α := ⟨a, a, a⟩

/-- Every slot's value changed alike. -/
def Trio.map {α β : Type} (f : α → β) (t : Trio α) : Trio β := ⟨f t.t0, f t.t1, f t.t2⟩

/-- The three values in slot order. -/
def Trio.toList {α : Type} (t : Trio α) : List α := [t.t0, t.t1, t.t2]

end Sys2Proof
end

