-- ==== Sys2Proof/Syntax.lean ====
section
/-! DEFINITION. The commands of the MJ-440: one constructor per row of spec/opcode_table.json.

Every command carries `dt`, the microseconds that pass between the command before it and itself: the table has no
row for a clock tick, so the time at which a thing happens is part of what happens (assumption 1). What the table's
rows leave unsaid (which chain, which line, which bits or bytes the wire brought since the command before) is an operand
here (assumptions 2 and 8). -/

namespace Sys2Proof

/-- One of the twelve lines of the Fast Mute Unit: arc line 0 to 7 or the surge line of a chain (R88). -/
inductive FastLineNo
  | arc (k : Fin 8)
  | surge (c : ChainNo)
  deriving DecidableEq, Repr

/-- A measurement group: 0 to 3 are the chains, 4 is the site (section 2.1). -/
inductive GroupNo
  | chain (c : ChainNo)
  | site
  deriving DecidableEq, Repr

/-- What brings a warm reset: RST_N held low, or the RESET request's acceptance having been sent (R163, R172). -/
inductive ResetCause
  | rstLow
  | requested
  deriving DecidableEq, Repr

/-- What a wire has brought since the command before, and the µs that have passed since it. -/
structure Arrival (α : Type) where
  dt  : Nat
  got : List α
  deriving DecidableEq, Repr

/-- The same, and for how long the wire has then been quiet, in µs. -/
structure Silence (α : Type) where
  dt    : Nat
  got   : List α
  quiet : Nat
  deriving DecidableEq, Repr

/-- The commands, in the order of spec/opcode_table.json. -/
inductive Instr
  -- resets and start-up
  | powerOnReset (dt : Nat) (bsel1 bsel0 : Bool)
  | warmReset (dt : Nat) (cause : ResetCause)
  | startUpEnd (dt : Nat)
  -- the sample link: the bits SDATA brought since the sync word, a whole frame's by its parts in Table 2-4
  | sampleFrame (dt : Nat) (header fields check : List Bool)
  | groupDiscard (dt : Nat) (header : List Bool)
  | shortFrameSync (x : Arrival Bool)
  | shortFrameTimeout (x : Silence Bool)
  -- group freshness
  | staleDeadline (dt : Nat) (g : GroupNo)
  | lostDeadline (dt : Nat) (g : GroupNo)
  -- coolant flow
  | flowLineEdge (dt : Nat) (c : ChainNo) (high : Bool)
  | flowPulseQualify (dt : Nat) (c : ChainNo)
  | flowFilterRearm (dt : Nat) (c : ChainNo)
  | gateEnd (dt : Nat)
  -- what the Intake and the Site Monitor deliver, taken by its owner
  | flowGateResult (dt : Nat) (c : ChainNo)
  | chainEvaluation (dt : Nat) (c : ChainNo)
  | chainFreshnessChange (dt : Nat) (c : ChainNo)
  | siteEvaluation (dt : Nat)
  | siteStale (dt : Nat)
  | siteLost (dt : Nat)
  | siteCeilingChange (dt : Nat) (c : ChainNo)
  | siteTripEvent (dt : Nat) (c : ChainNo)
  | siteFreshnessLoss (dt : Nat) (c : ChainNo)
  -- the site interlock
  | interlockLineEdge (dt : Nat) (high : Bool)
  | interlockOpening (dt : Nat)
  | interlockClosing (dt : Nat)
  | chainInterlockOpening (dt : Nat) (c : ChainNo)
  | chainInterlockClosing (dt : Nat) (c : ChainNo)
  -- arc and surge lines
  | fastLineEdge (dt : Nat) (line : FastLineNo) (high : Bool)
  | fastLineQualify (dt : Nat) (line : FastLineNo)
  | fastFilterRearm (dt : Nat) (line : FastLineNo)
  | qualifiedArcPulse (dt : Nat) (c : ChainNo)
  | qualifiedSurge (dt : Nat) (c : ChainNo)
  -- a chain's own timers
  | windowExpiry (dt : Nat) (c : ChainNo)
  | dwellEnd (dt : Nat) (c : ChainNo)
  | tripListEntryExpiry (dt : Nat) (c : ChainNo)
  | runOnExpiry (dt : Nat) (c : ChainNo)
  | chainFrameTick (dt : Nat) (c : ChainNo)
  | captureRecordJoin (dt : Nat)
  -- the frame marker
  | markerLineEdge (dt : Nat) (high : Bool)
  | markerFilterRearm (dt : Nat)
  | marker (dt : Nat)
  | fallbackTick (dt : Nat)
  | previousMarkerDrop (dt : Nat)
  | windowClose (dt : Nat)
  | levelTransferComplete (dt : Nat)
  -- a profile activation, taken by each block that reads the profile
  | chainProfileActivation (dt : Nat) (c : ChainNo)
  | siteProfileActivation (dt : Nat)
  | trackerProfileActivation (dt : Nat)
  | fastMuteProfileActivation (dt : Nat)
  -- loads and nonvolatile writes
  | loadTimeout (dt : Nat)
  | lockoutRecordWriteComplete (dt : Nat)
  | directoryWriteComplete (dt : Nat)
  | slotWriteComplete (dt : Nat)
  -- the control link's receiver: the bits of a character, or the bytes that followed the start byte; a whole frame's by
  -- its parts in Table 10-1, the head being length, kind and tag
  | framingError (x : Arrival Bool)
  | controlFrameDiscard (x : Arrival Byte)
  | controlFrameGapTimeout (x : Silence Byte)
  | unknownKind (dt : Nat) (head body crc : List Byte)
  | overlapFrame (dt : Nat) (head body crc : List Byte)
  -- requests: the frame that completes, its bytes after the start byte: the inner ones (length to body), and the CRC
  | identify (dt : Nat) (inner crc : List Byte)
  | readChain (dt : Nat) (inner crc : List Byte)
  | readSite (dt : Nat) (inner crc : List Byte)
  | readTiming (dt : Nat) (inner crc : List Byte)
  | readTrips (dt : Nat) (inner crc : List Byte)
  | readCapture (dt : Nat) (inner crc : List Byte)
  | readStore (dt : Nat) (inner crc : List Byte)
  | setLevel (dt : Nat) (inner crc : List Byte)
  | chainOn (dt : Nat) (inner crc : List Byte)
  | chainOff (dt : Nat) (inner crc : List Byte)
  | clearLockout (dt : Nat) (inner crc : List Byte)
  | releaseCapture (dt : Nat) (inner crc : List Byte)
  | loadBegin (dt : Nat) (inner crc : List Byte)
  | loadSegment (dt : Nat) (inner crc : List Byte)
  | loadEnd (dt : Nat) (inner crc : List Byte)
  | loadCancel (dt : Nat) (inner crc : List Byte)
  | activate (dt : Nat) (inner crc : List Byte)
  | setNotices (dt : Nat) (inner crc : List Byte)
  | reset (dt : Nat) (inner crc : List Byte)
  -- the transmit line, the receivers' start (the bits or bytes hunted through), the supply and the reset pin
  | transmitComplete (dt : Nat)
  | syncWordMatch (x : Arrival Bool)
  | controlStartByte (x : Arrival Byte)
  | supplyBelowThreshold (dt : Nat)
  | rstNRise (dt : Nat)
  deriving DecidableEq, Repr

end Sys2Proof
end

