-- ==== Sys2Proof/Config.lean ====
section
/-! DEFINITION. What an installation fixes and the manual does not: the values State.reset holds for the things
outside the part (its straps, its input lines, the contents of a factory-fresh nonvolatile array), and an instant that
R144 leaves open. Each is a DESIGN CHOICE named in the assumption log. The MJ-440 leaves no instruction's result undefined, so there is no free value. -/

namespace Sys2Proof.Config

/-- The byte an erased nonvolatile record or slot reads as (R153: "An erased slot, whose bytes all read 0xFF"). -/
def erasedByte : Byte := 0xFF

/-- DESIGN CHOICE (assumption 5): the level of strap BSEL1 that State.reset's power-on sampled. -/
def resetBsel1 : Bool := false

/-- DESIGN CHOICE (assumption 5): the level of strap BSEL0 that State.reset's power-on sampled. -/
def resetBsel0 : Bool := false

/-- DESIGN CHOICE (assumption 5): the level of every arc, surge, flow and marker line and of ILK at State.reset. -/
def resetLineLevel : Bool := false

/-- DESIGN CHOICE (assumption 26): the µs from the beginning of start-up to that of the level bus's zeroing, in which the
bus stands idle. R144 says "early in start-up" and no more. -/
def zeroingDelay : Nat := 1

end Sys2Proof.Config
end

