-- ==== Sys2Proof/Machine/Types.lean ====
section
/-! DEFINITION. The names and records of the MJ-440's blocks, as the tables of the manual give them. A record field
that the manual marks absent in some states is either an Option or an argument of the state that holds it, so an
absent field carries no value (R2, R3). -/

namespace Sys2Proof.Machine

/-! ## Names -/

/-- The seven chain states (R6, Table 1-5). -/
inductive ChainState
  | disabled | qualify | ramp | active | classify | holdoff | lockout
  deriving DecidableEq, Repr

/-- The two chain states in which a trip finds a chain (Table 6-5, "state at trip"). -/
inductive RunState
  | ramp | active
  deriving DecidableEq, Repr

/-- The component that set the permitted level, in limiter order (R57, Table 3-1). -/
inductive Limiter
  | setpoint | cap | mismatch | thermal | site | blind
  deriving DecidableEq, Repr

/-- The thermal bands (section 3.5). -/
inductive Band
  | a | b | c | d
  deriving DecidableEq, Repr

/-- Freshness of a measurement group (section 2.5). -/
inductive Freshness
  | fresh | stale | lost
  deriving DecidableEq, Repr

/-- The qualification checks, in the order of Table 1-4. -/
inductive Check
  | chainFresh | siteFresh | temp | flow | arcClear | surgeClear | interlock | siteOk | latch
  deriving DecidableEq, Repr

/-- The trip causes, in the order of Table 6-1. -/
inductive TripCause
  | arcConfirmed | arcFlash | surge | reflAbs | mismatch | overtemp | flowLoss | measLost
  | feederMismatch | rejectOvertemp | siteMeasLost | interlock
  deriving DecidableEq, Repr

/-- The six dwell classes of a profile (Table 9-1). -/
inductive DwellClass
  | arc | flash | surge | mismatch | thermal | measurement
  deriving DecidableEq, Repr

/-- Which detector a fast trip saw first (R94). -/
inductive FirstInput
  | arc | surge
  deriving DecidableEq, Repr

/-- The frame tracker's two states (chapter 7). -/
inductive TrackerState
  | search | locked
  deriving DecidableEq, Repr

/-- The qualified state of the site interlock (R83). -/
inductive Interlock
  | closed | opened
  deriving DecidableEq, Repr

/-- A profile designation: a slot, or the built-in default (R159). -/
inductive Designation
  | slot (k : Fin 3)
  | builtIn
  deriving DecidableEq, Repr

/-- Why an INVALID slot was found so (R155). -/
inductive Finding
  | crc
  | field (n : Nat)
  deriving DecidableEq, Repr

/-- The state of a profile slot (R155). -/
inductive SlotState
  | valid
  | invalid (finding : Finding)
  | writing
  deriving DecidableEq, Repr

/-- The reasons for which a frame on the sample link is discarded (Table 2-3). -/
inductive DiscardReason
  | check | group | short | fault | duplicate
  deriving DecidableEq, Repr

/-! ## Readings -/

/-- A chain's conditioned readings: F and Q in watts, Tout in tenths of a degree (Table 2-1). -/
structure ChainReadings where
  forward   : Nat
  reflected : Nat
  tout      : Int
  deriving DecidableEq, Repr

/-- The site's conditioned readings: FF, FQ in watts, Trej in tenths of a degree, Pgas in tenths of kPa (Table 2-1). -/
structure SiteReadings where
  forward   : Nat
  reflected : Nat
  trej      : Int
  pgas      : Nat
  deriving DecidableEq, Repr

/-! ## Profiles -/

/-- One dwell class of a profile: its time in units of 10 ms and its frame ticks (Table 6-2). -/
structure DwellLengths where
  time  : Nat
  ticks : Nat
  deriving DecidableEq, Repr

/-- A profile's 72 named fields, in the order of Table 9-1. -/
structure Profile where
  name          : List Byte
  revision      : Nat
  fmin          : Nat
  rs            : Nat
  rt            : Nat
  mf            : Nat
  qmax          : Nat
  e1            : Int
  e2            : Int
  e3            : Int
  h             : Nat
  cA            : Nat
  cB            : Nat
  cC            : Nat
  cD            : Nat
  gB            : Nat
  gC            : Nat
  gD            : Nat
  ttrip         : Int
  trestart      : Int
  flowMin       : Nat
  flowDwell     : Nat
  fminSite      : Nat
  rsSite        : Nat
  rtSite        : Nat
  mfSite        : Nat
  jstart        : Int
  jtrip         : Int
  jfloor        : Nat
  pmin          : Nat
  lowPressureCeiling : Nat
  ts            : Nat
  tm            : Nat
  chainBlind    : Nat
  siteBlind     : Nat
  dwellArc      : DwellLengths
  dwellFlash    : DwellLengths
  dwellSurge    : DwellLengths
  dwellMismatch : DwellLengths
  dwellThermal  : DwellLengths
  dwellMeasurement : DwellLengths
  tripWindow    : Nat
  lockoutLimit  : Nat
  rampStart     : Nat
  rampStep      : Nat
  recoverStep   : Nat
  caps          : Quad Nat
  startSetPoints : Quad Nat
  arcMap        : Oct Byte
  coincidence   : Nat
  tn            : Nat
  autoStart     : Byte
  runOn         : Nat
  deriving DecidableEq, Repr

/-! ## Trips and captures -/

/-- An entry of a recent trip list; its weight is that of its cause (Table 6-4, R106). -/
structure TripEntry where
  tripTime : Word32
  cause    : TripCause
  deriving DecidableEq, Repr

/-- The held trip snapshot of a chain in CLASSIFY (R94). -/
structure Snapshot where
  tripTime    : Word32
  stateAtTrip : RunState
  applied     : Nat
  permitted   : Nat
  limiter     : Limiter
  readings    : Option ChainReadings
  ratio       : Option Nat
  band        : Band
  flowRate    : Nat
  siteCeiling : Nat
  tracker     : TrackerState
  firstInput  : FirstInput
  arcLine     : Option (Fin 8)
  deriving DecidableEq, Repr

/-- The fields of a capture record that an INTERLOCK record lacks (Table 6-5). -/
structure ChainCapture where
  chain       : ChainNo
  stateAtTrip : RunState
  applied     : Nat
  permitted   : Nat
  limiter     : Limiter
  readings    : Option ChainReadings
  ratio       : Option Nat
  band        : Band
  flowRate    : Nat
  weightSum   : Nat
  deriving DecidableEq, Repr

/-- A capture record as it is made, without the sequence and gap that the queue assigns (R119, Table 6-5). -/
structure CaptureRecord where
  cause       : TripCause
  firstInput  : Option FirstInput
  arcLine     : Option (Fin 8)
  tripTime    : Word32
  siteCeiling : Nat
  tracker     : TrackerState
  chainPart   : Option ChainCapture
  deriving DecidableEq, Repr

/-- A record in the Capture Queue, with its sequence number and gap (R121). -/
structure QueuedRecord where
  sequence : Word16
  gap      : Bool
  record   : CaptureRecord
  deriving DecidableEq, Repr

/-- A record on its way to the queue: who made it (0 to 3 a chain, 4 the Site Monitor) and when (R122). -/
structure HandedRecord where
  source : Fin 5
  at_    : Nat
  record : CaptureRecord
  deriving DecidableEq, Repr

/-- The Capture Queue: its records oldest first, the next sequence number, and the records handed to it that have not
yet joined, in the order in which they will (R120, R122). -/
structure CaptureQueue where
  records : List QueuedRecord
  next    : Word16
  handed  : List HandedRecord
  deriving DecidableEq, Repr

/-! ## The chain record -/

/-- A running dwell: the lengths taken at entry to HOLDOFF, the instant (µs) its time counts from, and the ticks still
to be taken (R109). -/
structure Dwell where
  lengths   : DwellLengths
  startedAt : Nat
  ticksLeft : Nat
  deriving DecidableEq, Repr

/-- The chain's state together with the optional fields that belong to it: run-on remaining (as the instant it reaches
0) in DISABLED, the qualify-failure set in QUALIFY, the provisional cause, held snapshot and window expiry (an instant
in µs) in CLASSIFY, the final cause and the dwell in HOLDOFF (R2, R3). -/
inductive ChainMode
  | disabled (runOnEnds : Option Nat)
  | qualify (failures : List Check)
  | ramp
  | active
  | classify (cause : TripCause) (snapshot : Snapshot) (windowEnds : Nat)
  | holdoff (cause : TripCause) (dwell : Dwell)
  | lockout
  deriving DecidableEq, Repr

/-- The chain record of Table 1-2. F, Q and Tout come and go together (R4), so they are one optional field; the cooling
demand is the chain's line in Output Drive (R147). -/
structure ChainRecord where
  mode        : ChainMode
  setPoint    : Nat
  cap         : Nat
  mismatch    : Nat
  thermal     : Nat
  site        : Nat
  blind       : Nat
  permitted   : Nat
  applied     : Nat
  limiter     : Limiter
  readings    : Option ChainReadings
  ratio       : Option Nat
  band        : Band
  freshness   : Freshness
  flowRate    : Nat
  tripList    : List TripEntry
  latch       : Bool
  deriving DecidableEq, Repr

/-! ## What blocks deliver to one another -/

/-- What the Measurement Intake delivers to a group's owner, in order: evaluations and freshness changes (R33, R36,
R37). A change to LOST carries the lost deadline, which is the trip time of a MEAS_LOST trip (R108). -/
inductive IntakeEvent (ρ : Type)
  | evaluation (readings : ρ) (returned : Bool)
  | wentStale
  | wentLost (deadline : Word32)
  deriving DecidableEq, Repr

/-- A flow gate result: the flow rate and whether the consecutive-low count is at or above the dwell (R41). -/
structure FlowResult where
  rate    : Nat
  atDwell : Bool
  deriving DecidableEq, Repr

/-- A site trip event's cause (R77, R81). -/
inductive SiteTrip
  | feederMismatch | rejectOvertemp | siteMeasLost
  deriving DecidableEq, Repr

/-- An opening or a closing of the site interlock (R84). -/
inductive InterlockChange
  | opening | closing
  deriving DecidableEq, Repr

/-- A qualified pulse on its way to a chain: the qualification instant (µs since power-on), the site clock and the
tracker state at that instant (R91, R92, R94). -/
structure PulseStamp where
  instant : Nat
  clock   : Word32
  tracker : TrackerState
  deriving DecidableEq, Repr

/-- A qualified arc pulse carries its line number beside its stamp (R91). -/
structure ArcPulse where
  line  : Fin 8
  stamp : PulseStamp
  deriving DecidableEq, Repr

/-- What one event of the Site Monitor delivered to a chain and the chain has not yet taken: a changed X, a site trip
event, a site freshness loss. A chain takes what one event delivered in either order (R79), and what a later event
delivered only after it (R76, R82). -/
structure SiteDelivery where
  ceiling : Option Nat
  trip    : Option SiteTrip
  loss    : Bool
  deriving DecidableEq, Repr

/-- The events delivered to one chain that it has not yet taken, each source's in the order it sent them (R1, R33, R76,
R82, R135, R159). -/
structure ChainInbox where
  intake      : List (IntakeEvent ChainReadings)
  flow        : List FlowResult
  site        : List SiteDelivery
  interlock   : List InterlockChange
  arcs        : List ArcPulse
  surges      : List PulseStamp
  ticks       : Nat
  activations : List Profile
  deriving DecidableEq, Repr

/-- One Chain Supervisor: its record, the events waiting for it, and the profile of the last activation it has taken,
which is the active profile in its rules (R159). -/
structure Chain where
  record  : ChainRecord
  inbox   : ChainInbox
  profile : Profile
  deriving DecidableEq, Repr

/-! ## Measurement Intake -/

/-- The sample-link receiver: HUNTING with the bits it holds for its comparison, the last fifteen received or fewer, or
IN FRAME since an instant, that of the frame's sync word (R26). -/
inductive SampleReceiver
  | hunting (held : List Bool)
  | inFrame (since : Nat)
  deriving DecidableEq, Repr

/-- The last valid frame of a group: its readings, the numbers of the fields that were limited, its sequence number
and its time. They come and go together (Table 2-1). -/
structure LastFrame (ρ : Type) where
  readings : ρ
  limited  : List Nat
  sequence : Nat
  time     : Word32
  deriving DecidableEq, Repr

/-- A group record (Table 2-1). -/
structure GroupRecord (ρ : Type) where
  last          : Option (LastFrame ρ)
  freshness     : Freshness
  staleDeadline : Option Word32
  lostDeadline  : Option Word32
  deriving DecidableEq, Repr

/-- A flow line's input filter: its qualified level, whether it accepts a rise, and the instant since which the line
has been at its present level (R40, Table 2-2). -/
structure FlowFilter where
  high  : Bool
  armed : Bool
  since : Nat
  deriving DecidableEq, Repr

/-- The flow counter set of a chain (Table 2-2). -/
structure FlowCounter where
  count    : Nat
  rate     : Nat
  lowGates : Nat
  filter   : FlowFilter
  deriving DecidableEq, Repr

/-- The Intake statistics record (Table 2-3). -/
structure IntakeStatistics where
  acceptedChain : Quad Nat
  acceptedSite  : Nat
  check         : Nat
  group         : Nat
  short         : Nat
  fault         : Nat
  duplicate     : Nat
  deriving DecidableEq, Repr

/-- The Measurement Intake (section 2.1). `gateDue` is the instant of the next gate end. -/
structure Intake where
  receiver   : SampleReceiver
  chainGroup : Quad (GroupRecord ChainReadings)
  siteGroup  : GroupRecord SiteReadings
  statistics : IntakeStatistics
  flow       : Quad FlowCounter
  gateDue    : Nat
  deriving DecidableEq, Repr

/-! ## Site Monitor -/

/-- The site record (Table 4-1). `filterSince` is the instant since which the raw ILK level has differed from the
interlock state. -/
structure SiteRecord where
  readings     : Option SiteReadings
  ratio        : Option Nat
  feederLine   : Nat
  rejectLine   : Nat
  lowPressure  : Bool
  pressureCap  : Nat
  evaluated    : Nat
  ceiling      : Nat
  feederTrip   : Bool
  rejectTrip   : Bool
  freshness    : Freshness
  interlock    : Interlock
  filterSince  : Option Nat
  deriving DecidableEq, Repr

/-- The Site Monitor: its record, what waits for it, and the profile of the last activation it has taken. -/
structure SiteMonitor where
  record      : SiteRecord
  intake      : List (IntakeEvent SiteReadings)
  activations : List Profile
  profile     : Profile
  deriving DecidableEq, Repr

/-! ## Fast Mute Unit and Frame Timing Reference -/

/-- A pulse qualification filter; TIMING and REARM hold the instant their timing started (R89; R127 for FMK). -/
inductive PulseFilter
  | idle
  | timing (since : Nat)
  | held
  | rearm (since : Nat)
  deriving DecidableEq, Repr

/-- One line of the Fast Mute Unit: its filter and its pulse count (Table 5-1). -/
structure FastLine where
  filter : PulseFilter
  count  : Nat
  deriving DecidableEq, Repr

/-- The Fast Mute Unit; its sampled levels are the raw levels of `Pins` (R88). -/
structure FastMute where
  arcs        : Oct FastLine
  surges      : Quad FastLine
  arcMap      : Oct Byte
  activations : List Profile
  deriving DecidableEq, Repr

/-- The tracker's state with the fields that belong to it (Table 7-1). -/
inductive TrackerMode
  | search (previous : Option Word32) (good : Nat) (fallbackDue : Word32)
  | locked (pe : Nat) (misses : Nat)
  deriving DecidableEq, Repr

/-- The Frame Timing Reference: the nominal period Tn it holds, the instant (µs) its tracker time counts from, and the
tracker record (Table 7-1). Tnu, τ and W are computed from Tn and Pe. -/
structure Tracker where
  tn          : Nat
  origin      : Nat
  mode        : TrackerMode
  lastTick    : Word32
  markers     : Nat
  strays      : Nat
  virtuals    : Nat
  fallbacks   : Nat
  locks       : Nat
  losses      : Nat
  filter      : PulseFilter
  activations : List Profile
  deriving DecidableEq, Repr

/-! ## Level bus and Output Drive -/

/-- A level-bus transfer under way (Table 8-2). -/
structure Transfer where
  chain   : ChainNo
  level   : Nat
  started : Nat
  deriving DecidableEq, Repr

/-- The Level Bus Controller (Table 8-2). -/
structure LevelBus where
  lastSent   : Quad Nat
  pending    : Quad (Option Nat)
  inFlight   : Option Transfer
  lastServed : ChainNo
  deriving DecidableEq, Repr

/-- The set of alarm reasons Output Drive holds (Table 8-4). -/
structure AlarmReasons where
  lockoutChains      : Quad Bool
  siteLost           : Bool
  defaultProfile     : Bool
  directoryFault     : Bool
  lockoutRecordFault : Bool
  deriving DecidableEq, Repr

/-- The output lines of Output Drive, true while asserted: INH0 to INH3, CDM0 to CDM3, ALM (chapter 8). -/
structure OutputLines where
  inhibit : Quad Bool
  cooling : Quad Bool
  alarm   : Bool
  deriving DecidableEq, Repr

/-! ## Profile Store and NV Controller -/

/-- The profile load (R155). OPEN holds its target, the next expected segment, the staging image and the instant the
load timer last started. -/
inductive Load
  | closed
  | opened (target : Fin 3) (expected : Nat) (staging : List Byte) (timer : Nat)
  | committing (target : Fin 3)
  deriving DecidableEq, Repr

/-- The Profile Store: the active copy and its source, the directory content, the slot states and the load. -/
structure ProfileStore where
  active    : Profile
  source    : Designation
  directory : Designation
  slots     : Trio SlotState
  load      : Load
  deriving DecidableEq, Repr

/-- A slot write: its slot and the staging image it carries (R161). -/
structure SlotWrite where
  slot  : Fin 3
  image : List Byte
  deriving DecidableEq, Repr

/-- What the write in progress writes, taken at its start (R118, R160, R161). -/
inductive NvWork
  | lockout (latches : Quad Bool)
  | directory (content : Designation)
  | slot (w : SlotWrite)
  deriving DecidableEq, Repr

/-- A write in progress and the instant it started. -/
structure NvWrite where
  work    : NvWork
  started : Nat
  deriving DecidableEq, Repr

/-- The NV Controller: the pending set, at most one write of each kind, and the write in progress (R161). -/
structure NvController where
  lockoutPending   : Bool
  directoryPending : Bool
  slotPending      : Option SlotWrite
  inProgress       : Option NvWrite
  deriving DecidableEq, Repr

/-- The content of one record of the nonvolatile array: its bytes, or a record that a reset cut off while it was being
written, of which the manual says only that its CRC is bad (R161). -/
inductive NvCell
  | bytes (bs : List Byte)
  | torn
  deriving DecidableEq, Repr

/-- The nonvolatile array: the directory, the lockout record and the three slots (section 9.4). -/
structure NvArray where
  directory : NvCell
  lockout   : NvCell
  slots     : Trio NvCell
  deriving DecidableEq, Repr

/-! ## Control Link -/

/-- The control-link receiver: HUNTING, or IN FRAME since an instant (R165). -/
inductive LinkReceiver
  | hunting
  | inFrame (since : Nat)
  deriving DecidableEq, Repr

/-- The request in hand, by kind and tag (R166). -/
structure InHand where
  kind : Byte
  tag  : Byte
  deriving DecidableEq, Repr

/-- The overlap slot's frame; `ready` once its BUSY refusal is a waiting reply (R166). -/
structure Overlap where
  kind  : Byte
  tag   : Byte
  ready : Bool
  deriving DecidableEq, Repr

/-- A message of the part: kind, tag and body (Table 10-1). -/
structure Message where
  kind : Byte
  tag  : Byte
  body : List Byte
  deriving DecidableEq, Repr

/-- A set of the six sources of notices (R169). -/
structure NoticeSet where
  chains  : Quad Bool
  site    : Bool
  capture : Bool
  deriving DecidableEq, Repr

/-- The pending flags, one a source; a pending one is held as the instant at which it was raised (R169). -/
structure NoticeFlags where
  chains  : Quad (Option Nat)
  site    : Option Nat
  capture : Option Nat
  deriving DecidableEq, Repr

/-- One source of notices (R169). -/
inductive NoticeSource
  | chain (c : ChainNo)
  | site
  | capture
  deriving DecidableEq, Repr

/-- What a message on the transmit line is; a notice with its source and the instant at which its flag was raised (R169,
R171). -/
inductive TxItem
  | reply
  | busy
  | notice (source : NoticeSource) (raised : Nat)
  deriving DecidableEq, Repr

/-- The message being sent on CTXD and the instant it started. -/
structure Transmission where
  item    : TxItem
  message : Message
  started : Nat
  deriving DecidableEq, Repr

/-- The Control Link (chapter 10). `straps` are BSEL1 and BSEL0 as sampled at the last power-on reset (R164). -/
structure ControlLink where
  bsel1         : Bool
  bsel0         : Bool
  receiver      : LinkReceiver
  inHand        : Option InHand
  reply         : Option Message
  overlap       : Option Overlap
  noticeMask    : NoticeSet
  noticePending : NoticeFlags
  transmitting  : Option Transmission
  deriving DecidableEq, Repr

/-! ## Lines in and phases -/

/-- The raw levels of the input lines, true while high (scope section 4). -/
structure Pins where
  arcs   : Oct Bool
  surges : Quad Bool
  ilk    : Bool
  flows  : Quad Bool
  fmk    : Bool
  rstN   : Bool
  deriving DecidableEq, Repr

/-- Where the part stands between resets: without supply, held in reset by RST_N, in start-up since an instant, running,
or running out the moment at which the RESET acceptance's last byte has been sent (R162, R163, R172). -/
inductive Phase
  | unpowered
  | held
  | startUp (began : Nat)
  | running
  | resetDue
  deriving DecidableEq, Repr

end Sys2Proof.Machine
end

