-- ==== Sys2Proof/Machine/Operands.lean ====
section
/-! DEFINITION. How the part reads what its links carry: the bits and words of a sample frame and their conditioning
(sections 2.2 and 2.3), the characters and frames of the control link (sections 10.1 and 10.2), the fields of a request
body (Table 10-2), and big-endian numbers. -/

namespace Sys2Proof.Machine

/-! ## Numbers in bytes, high byte first (scope section 5.3) -/

/-- The byte at offset `n`; a byte past the end reads as zero. -/
def byteAt (bs : List Byte) (n : Nat) : Byte := bs.getD n 0

/-- The unsigned one-byte field at `n`. -/
def u8At (bs : List Byte) (n : Nat) : Nat := (byteAt bs n).toNat

/-- The unsigned two-byte field at `n`. -/
def u16At (bs : List Byte) (n : Nat) : Nat := 256 * u8At bs n + u8At bs (n + 1)

/-- A two-byte value read as two's complement. -/
def signed16 (n : Nat) : Int := if n < 32768 then (n : Int) else (n : Int) - 65536

/-- The two's complement two-byte field at `n`. -/
def s16At (bs : List Byte) (n : Nat) : Int := signed16 (u16At bs n)

/-- A one-byte field. -/
def bytes8 (n : Nat) : List Byte := [BitVec.ofNat 8 n]

/-- A two-byte field. -/
def bytes16 (n : Nat) : List Byte := [BitVec.ofNat 8 (n / 256), BitVec.ofNat 8 n]

/-- A four-byte field. -/
def bytes32 (n : Nat) : List Byte := bytes16 (n / 65536) ++ bytes16 n

/-- A two-byte two's complement field. -/
def bytesSigned16 (i : Int) : List Byte := bytes16 ((BitVec.ofInt 16 i).toNat)

/-- A flag: 0x00 clear, 0x01 set (Table 10-4). -/
def bytesFlag (b : Bool) : List Byte := [if b then 0x01 else 0x00]

/-- A byte whose bit `n` is the `n`-th of the given flags. -/
def maskByte (flags : List Bool) : Byte :=
  BitVec.ofNat 8 ((flags.zipIdx.map fun (b, n) => if b then 2 ^ n else 0).sum)

/-! ## The CRC-16 (scope section 5.3) -/

/-- One bit of the CRC: polynomial 0x1021, no reflection. -/
def crcShift (crc : Word16) : Word16 :=
  if crc.msb then (crc <<< 1) ^^^ 0x1021#16 else crc <<< 1

/-- One byte of the CRC, its most significant bit first. -/
def crcByte (crc : Word16) (b : Byte) : Word16 :=
  let x := crc ^^^ ((b.setWidth 16) <<< 8)
  crcShift (crcShift (crcShift (crcShift (crcShift (crcShift (crcShift (crcShift x)))))))

/-- CRC-16 of a string of bytes: initial value 0xFFFF, no final inversion. -/
def crc16 (bs : List Byte) : Word16 := bs.foldl crcByte 0xFFFF#16

/-! ## Bits and words on the sample link (R26) -/

/-- The sync word of the sample link. -/
def syncWord : Word16 := 0x5A3C#16

/-- A word's bits as SDATA carries them, the most significant first. -/
def bitsOfWord (w : Word16) : List Bool := (List.range 16).map w.getMsbD

/-- The bits of several words, in order. -/
def bitsOfWords (ws : List Word16) : List Bool := ws.flatMap bitsOfWord

/-- The word that sixteen bits make, the first the most significant. -/
def wordOf (bits : List Bool) : Word16 := bits.foldl BitVec.shiftConcat 0

/-- The words that bits make from an aligned position, each of the next sixteen bits, and the bits that do not yet make
one. `fuel` bounds the number of words. -/
def wordsWithin (fuel : Nat) (bits : List Bool) : List Word16 × List Bool :=
  match fuel with
  | 0 => ([], bits)
  | n + 1 =>
    if bits.length < 16 then ([], bits)
    else
      let x := wordsWithin n (bits.drop 16)
      (wordOf (bits.take 16) :: x.1, x.2)

/-- The words of a string of bits and the bits left over. -/
def wordsOf (bits : List Bool) : List Word16 × List Bool := wordsWithin (bits.length / 16) bits

/-- The last `n` bits of a string, or all of them where there are fewer. -/
def lastBits (n : Nat) (bits : List Bool) : List Bool := bits.drop (bits.length - n)

/-- What became of bits received while HUNTING: no match, with the bits then held, or a match, with the bits that followed
it. -/
inductive Hunt
  | searching (held : List Bool)
  | matched (after : List Bool)
  deriving DecidableEq, Repr

/-- The comparison of the last sixteen bits received with the sync word, at every bit (R26). -/
def huntBits (held bits : List Bool) : Hunt :=
  match bits with
  | [] => .searching held
  | b :: rest =>
    if lastBits 16 (held ++ [b]) = bitsOfWord syncWord then .matched rest
    else huntBits (lastBits 15 (held ++ [b])) rest

/-! ## Sample frames (R27, R28) -/

/-- Header bits 15 to 13: the measurement group, 0 to 7 (Table 2-5). -/
def headerGroup (h : Word16) : Nat := h.toNat / 8192

/-- The group a header names, if it is one of the five (R27). -/
def headerGroupNo (h : Word16) : Option GroupNo :=
  match headerGroup h with
  | 0 => some (.chain 0)
  | 1 => some (.chain 1)
  | 2 => some (.chain 2)
  | 3 => some (.chain 3)
  | 4 => some .site
  | _ => none

/-- Header bit 12: the front-end-fault flag. -/
def headerFault (h : Word16) : Bool := h.getLsbD 12

/-- The overrange flag of field `n`, 1 to 4: header bits 11 to 8. -/
def headerOverrange (h : Word16) (n : Nat) : Bool := h.getLsbD (12 - n)

/-- Header bits 7 to 0: the sequence number. -/
def headerSequence (h : Word16) : Nat := h.toNat % 256

/-- How many fields a frame of the group carries (Table 2-4). -/
def fieldCount (g : GroupNo) : Nat :=
  match g with
  | .chain _ => 3
  | .site => 4

/-- The longitudinal check word: the exclusive-OR of the header and the fields (scope section 5.3). -/
def checkWord (header : Word16) (fields : List Word16) : Word16 := fields.foldl (· ^^^ ·) header

/-- A frame's words after the sync word: its header, its fields and its check word. -/
structure FrameWords where
  header : Word16
  fields : List Word16
  check  : Word16
  deriving DecidableEq, Repr

/-- The words after the sync word make a frame that ends at its check word: the header names one of the five groups,
the fields are as many as the group has, and no word is the sync word, which would have ended the frame (R27, R28). -/
def frameGroup (x : FrameWords) : Option GroupNo :=
  match headerGroupNo x.header with
  | some g =>
    if x.fields.length = fieldCount g ∧ x.header ≠ syncWord ∧ x.check ≠ syncWord ∧ ¬ x.fields.contains syncWord then
      some g
    else none
  | none => none

/-- The bits of a frame's words. -/
def frameBits (x : FrameWords) : List Bool := bitsOfWord x.header ++ bitsOfWords x.fields ++ bitsOfWord x.check

/-- The words that the bits since the sync word make, where they end at a word's last bit and are two words or more. -/
def frameWords (bits : List Bool) : Option FrameWords :=
  match wordsOf bits with
  | (header :: rest, []) => rest.getLast?.map fun check => ⟨header, rest.dropLast, check⟩
  | _ => none

/-- The one word that the bits since the sync word make. -/
def oneWord (bits : List Bool) : Option Word16 :=
  match wordsOf bits with
  | ([w], []) => some w
  | _ => none

/-- The words after the sync word leave their frame unfinished: no header yet, or a header of one of the five groups with
fewer words after it than its fields and check word, and no word is the sync word (R27, R28). -/
def unfinishedWords (ws : List Word16) : Bool :=
  !ws.contains syncWord &&
    match ws with
    | [] => true
    | header :: rest => (headerGroupNo header).any fun g => decide (rest.length ≤ fieldCount g)

/-- The bits since the sync word leave their frame unfinished. -/
def unfinishedFrame (bits : List Bool) : Bool := unfinishedWords (wordsOf bits).1

/-- The bits since the sync word end with an aligned word equal to it, their frame unfinished till then (R28). -/
def restartsFrame (bits : List Bool) : Bool :=
  match wordsOf bits with
  | (ws, []) => decide (ws.getLast? = some syncWord) && unfinishedWords ws.dropLast
  | _ => false

/-! ## Conditioning (R31, R32) -/

/-- A conditioned reading and whether conditioning forced or changed it. -/
structure Conditioned (α : Type) where
  value   : α
  limited : Bool
  deriving DecidableEq, Repr

/-- An unsigned field of maximum `top`: forced to it by its overrange flag, else limited to it. -/
def conditionUnsigned (forced : Bool) (raw : Word16) (top : Nat) : Conditioned Nat :=
  if forced then ⟨top, true⟩ else if top < raw.toNat then ⟨top, true⟩ else ⟨raw.toNat, false⟩

/-- A temperature: forced to 1250 by its overrange flag, else two's complement limited to −400 to 1250. -/
def conditionTemperature (forced : Bool) (raw : Word16) : Conditioned Int :=
  if forced then ⟨1250, true⟩
  else if raw.toInt < -400 then ⟨-400, true⟩
  else if 1250 < raw.toInt then ⟨1250, true⟩
  else ⟨raw.toInt, false⟩

/-- The numbers of the fields that conditioning limited, in field order. -/
def limitedNumbers (flags : List Bool) : List Nat :=
  (flags.zipIdx 1).filterMap fun (b, n) => if b then some n else none

/-- The field at place `n`, counting from 0. -/
def fieldAt (fields : List Word16) (n : Nat) : Word16 := fields.getD n 0

/-- A chain frame's readings and limited set. -/
def conditionChain (header : Word16) (fields : List Word16) : ChainReadings × List Nat :=
  let f := conditionUnsigned (headerOverrange header 1) (fieldAt fields 0) 20000
  let q := conditionUnsigned (headerOverrange header 2) (fieldAt fields 1) 20000
  let t := conditionTemperature (headerOverrange header 3) (fieldAt fields 2)
  (⟨f.value, q.value, t.value⟩, limitedNumbers [f.limited, q.limited, t.limited])

/-- A site frame's readings and limited set. -/
def conditionSite (header : Word16) (fields : List Word16) : SiteReadings × List Nat :=
  let f := conditionUnsigned (headerOverrange header 1) (fieldAt fields 0) 60000
  let q := conditionUnsigned (headerOverrange header 2) (fieldAt fields 1) 60000
  let t := conditionTemperature (headerOverrange header 3) (fieldAt fields 2)
  let p := conditionUnsigned (headerOverrange header 4) (fieldAt fields 3) 2000
  (⟨f.value, q.value, t.value, p.value⟩, limitedNumbers [f.limited, q.limited, t.limited, p.limited])

/-! ## Characters and frames on the control link (R164, R165) -/

/-- A character's bits as the line carries them: a low start bit, the 8 data bits least significant first, a high stop
bit. -/
def characterBits (b : Byte) : List Bool := false :: (List.range 8).map b.getLsbD ++ [true]

/-- Ten bits of which the first is a start bit and the last, in the stop bit's place, is low. -/
def framingFault (character : List Bool) : Bool :=
  decide (character.length = 10) && character.head? == some false && character.getLast? == some false

/-- A frame's start byte. -/
def startByte : Byte := 0xC3

/-- A frame's length, kind and tag (Table 10-1). -/
def frameHead (m : Message) : List Byte := bytes8 (m.body.length + 2) ++ [m.kind, m.tag]

/-- What the CRC of a frame covers: length, kind, tag and body (Table 10-1). -/
def frameInner (m : Message) : List Byte := frameHead m ++ m.body

/-- A frame's CRC, high byte first (Table 10-1). -/
def frameCrc (m : Message) : List Byte := bytes16 (crc16 (frameInner m)).toNat

/-- A frame's bytes after its start byte. -/
def frameTail (m : Message) : List Byte := frameInner m ++ frameCrc m

/-- A message as it crosses the line (Table 10-1). -/
def frameBytes (m : Message) : List Byte := startByte :: frameTail m

/-- The length byte is one a frame may have (R165). -/
def lengthGood (n : Byte) : Bool := decide (2 ≤ n.toNat) && decide (n.toNat ≤ 250)

/-- The bytes after a start byte make a complete frame: a good length byte, and length + 2 bytes after it. -/
def frameComplete (frame : List Byte) : Bool :=
  match frame with
  | [] => false
  | n :: rest => lengthGood n && decide (rest.length = n.toNat + 2)

/-- The CRC of a complete frame is good: its last two bytes are the CRC-16 of those before them. -/
def frameCrcGood (frame : List Byte) : Bool :=
  decide (frame.drop (frame.length - 2) = bytes16 (crc16 (frame.take (frame.length - 2))).toNat)

/-- The message of a complete frame with a good CRC (R165). -/
def readFrame (frame : List Byte) : Option Message :=
  if frameComplete frame && frameCrcGood frame then
    match frame with
    | _ :: kind :: tag :: rest => some ⟨kind, tag, rest.take (rest.length - 2)⟩
    | _ => none
  else none

/-- The bytes after a start byte discard their frame: a length byte below 2 or above 250, at once, or a complete frame
with a bad CRC (R165). -/
def badFrame (frame : List Byte) : Bool :=
  match frame with
  | [n] => !lengthGood n
  | _ => frameComplete frame && !frameCrcGood frame

/-- The bytes after a start byte leave their frame unfinished. -/
def unfinishedBytes (frame : List Byte) : Bool :=
  match frame with
  | [] => true
  | n :: rest => lengthGood n && decide (rest.length < n.toNat + 2)

/-! ## Request bodies (Table 10-2) -/

/-- The chain a byte names, if it is 0 to 3. -/
def chainOf (b : Byte) : Option ChainNo := if h : b.toNat < 4 then some ⟨b.toNat, h⟩ else none

/-- The slot a byte names, if it is 0 to 2. -/
def slotOf (b : Byte) : Option (Fin 3) := if h : b.toNat < 3 then some ⟨b.toNat, h⟩ else none

/-- The designation a byte names: 0x00 to 0x02 a slot, 0x0F the default. -/
def designationOf (b : Byte) : Option Designation :=
  if b = 0x0F#8 then some .builtIn else (slotOf b).map .slot

/-- The code of a designation (Table 10-5, Table 9-5). -/
def designationCode (d : Designation) : Nat :=
  match d with
  | .slot k => k.val
  | .builtIn => 0x0F

/-- The notice sources a SET_NOTICES mask enables: bits 0 to 3 the chains, 4 the site, 5 the Capture Queue; bits 6 and 7
are ignored. -/
def noticeSetOf (b : Byte) : NoticeSet :=
  { chains := Quad.ofFn fun c => b.getLsbD c.val, site := b.getLsbD 4, capture := b.getLsbD 5 }

/-- The request kinds of Table 10-2. -/
def requestKinds : List Byte :=
  [0x01, 0x02, 0x03, 0x04, 0x05, 0x06, 0x07, 0x10, 0x11, 0x12, 0x13, 0x14, 0x20, 0x21, 0x22, 0x23, 0x24, 0x30, 0x3F]

end Sys2Proof.Machine
end

