-- ==== Sys2Proof/Machine/Profiles.lean ====
section
/-! DEFINITION. Profile content, the profile image, its validation and the built-in default (section 9.1). -/

namespace Sys2Proof.Machine

/-- The image's length in bytes (section 9.1.1). -/
def imageLength : Nat := 256

/-- The dwell lengths at class `k` of an image: time at 75 + 3k, ticks at 77 + 3k. -/
def dwellAt (img : List Byte) (k : Nat) : DwellLengths := ⟨u16At img (75 + 3 * k), u8At img (77 + 3 * k)⟩

/-- Four two-byte fields, one a chain, from an offset. -/
def quadAt (img : List Byte) (n : Nat) : Quad Nat := Quad.ofFn fun c => u16At img (n + 2 * c.val)

/-- The profile an image holds (Table 9-1). -/
def profileOfImage (img : List Byte) : Profile :=
  { name := (img.take 12)
    revision := u16At img 12
    fmin := u16At img 14
    rs := u16At img 16
    rt := u16At img 18
    mf := u16At img 20
    qmax := u16At img 22
    e1 := s16At img 24
    e2 := s16At img 26
    e3 := s16At img 28
    h := u8At img 30
    cA := u16At img 31
    cB := u16At img 33
    cC := u16At img 35
    cD := u16At img 37
    gB := u8At img 39
    gC := u8At img 40
    gD := u8At img 41
    ttrip := s16At img 42
    trestart := s16At img 44
    flowMin := u16At img 46
    flowDwell := u8At img 48
    fminSite := u16At img 49
    rsSite := u16At img 51
    rtSite := u16At img 53
    mfSite := u16At img 55
    jstart := s16At img 57
    jtrip := s16At img 59
    jfloor := u16At img 61
    pmin := u16At img 63
    lowPressureCeiling := u16At img 65
    ts := u16At img 67
    tm := u16At img 69
    chainBlind := u16At img 71
    siteBlind := u16At img 73
    dwellArc := dwellAt img 0
    dwellFlash := dwellAt img 1
    dwellSurge := dwellAt img 2
    dwellMismatch := dwellAt img 3
    dwellThermal := dwellAt img 4
    dwellMeasurement := dwellAt img 5
    tripWindow := u16At img 93
    lockoutLimit := u8At img 95
    rampStart := u16At img 96
    rampStep := u16At img 98
    recoverStep := u16At img 100
    caps := quadAt img 102
    startSetPoints := quadAt img 110
    arcMap :=
      ⟨⟨byteAt img 118, byteAt img 119, byteAt img 120, byteAt img 121⟩,
        ⟨byteAt img 122, byteAt img 123, byteAt img 124, byteAt img 125⟩⟩
    coincidence := u16At img 126
    tn := u16At img 128
    autoStart := byteAt img 130
    runOn := u16At img 131 }

/-! ## Validation (R152) -/

/-- A value within a closed range. -/
def within (lo hi : Int) (x : Int) : Bool := decide (lo ≤ x) && decide (x ≤ hi)

/-- A temperature field's range (Table 9-1). -/
def temperatureOk (x : Int) : Bool := within (-400) 1250 x

/-- A level field's range. -/
def levelOk (n : Nat) : Bool := decide (n ≤ 1000)

/-- A dwell class's two fields, time and ticks, tested under their numbers. -/
def dwellTests (n : Nat) (d : DwellLengths) : List (Nat × Bool) :=
  [(n, within 1 6000 d.time), (n + 1, within 0 255 d.ticks)]

/-- Fields 1 to 35, each with its range test and the relations charged to it (Table 9-1, Table 9-2). -/
def profileTestsLow (p : Profile) : List (Nat × Bool) :=
  [ (1, p.name.all fun b => decide (0x20 ≤ b.toNat) && decide (b.toNat ≤ 0x7E)),
    (2, within 0 65535 p.revision),
    (3, within 1 20000 p.fmin),
    (4, within 0 999 p.rs),
    (5, within 1 1000 p.rt && decide (p.rs < p.rt)),
    (6, levelOk p.mf),
    (7, within 0 20000 p.qmax),
    (8, temperatureOk p.e1),
    (9, temperatureOk p.e2),
    (10, temperatureOk p.e3),
    (11, within 1 50 p.h && (decide (p.e1 + p.h < p.e2) && decide (p.e2 + p.h < p.e3))),
    (12, levelOk p.cA),
    (13, levelOk p.cB),
    (14, levelOk p.cC),
    (15, levelOk p.cD),
    (16, within 0 200 p.gB),
    (17, within 0 200 p.gC),
    (18, within 0 200 p.gD),
    (19, temperatureOk p.ttrip && decide (p.e3 + p.h ≤ p.ttrip)),
    (20, temperatureOk p.trestart && decide (p.trestart < p.ttrip)),
    (21, within 0 2000 p.flowMin),
    (22, within 1 40 p.flowDwell),
    (23, within 1 60000 p.fminSite),
    (24, within 0 999 p.rsSite),
    (25, within 1 1000 p.rtSite && decide (p.rsSite < p.rtSite)),
    (26, levelOk p.mfSite),
    (27, temperatureOk p.jstart),
    (28, temperatureOk p.jtrip && decide (p.jstart < p.jtrip)),
    (29, levelOk p.jfloor),
    (30, within 0 2000 p.pmin),
    (31, levelOk p.lowPressureCeiling),
    (32, within 1 10000 p.ts),
    (33, within 1 10000 p.tm && decide (p.ts < p.tm)),
    (34, levelOk p.chainBlind),
    (35, levelOk p.siteBlind) ]

/-- Fields 36 to 72 (Table 9-1). -/
def profileTestsHigh (p : Profile) : List (Nat × Bool) :=
  dwellTests 36 p.dwellArc ++ dwellTests 38 p.dwellFlash ++ dwellTests 40 p.dwellSurge
    ++ dwellTests 42 p.dwellMismatch ++ dwellTests 44 p.dwellThermal ++ dwellTests 46 p.dwellMeasurement
    ++ [ (48, within 10 3600 p.tripWindow),
         (49, within 1 8 p.lockoutLimit),
         (50, levelOk p.rampStart),
         (51, within 1 1000 p.rampStep),
         (52, within 1 1000 p.recoverStep) ]
    ++ (p.caps.toList.zipIdx 53).map (fun (v, n) => (n, levelOk v))
    ++ (p.startSetPoints.toList.zipIdx 57).map (fun (v, n) => (n, levelOk v))
    ++ (p.arcMap.toList.zipIdx 61).map (fun (b, n) => (n, decide (b.toNat ≤ 0x0F)))
    ++ [ (69, within 10 5000 p.coincidence),
         (70, within 10 10000 p.tn),
         (71, decide (p.autoStart.toNat ≤ 0x0F)),
         (72, within 0 600 p.runOn) ]

/-- The fields of a profile in ascending order, each with whether its tests pass. -/
def profileTests (p : Profile) : List (Nat × Bool) := profileTestsLow p ++ profileTestsHigh p

/-- Every field of the profile lies in its range and every relation of Table 9-2 holds. -/
def profileValid (p : Profile) : Bool := (profileTests p).all fun t => t.2

/-- Field 73: the fill, bytes 133 to 253, every byte 0x00. -/
def fillClear (img : List Byte) : Bool := ((img.drop 133).take 121).all fun b => b == 0x00#8

/-- The failing field of an image: the first whose test fails, if any (R152). -/
def failingField (img : List Byte) : Option Nat :=
  ((profileTests (profileOfImage img) ++ [(73, fillClear img)]).find? fun t : Nat × Bool => !t.2).map fun t : Nat × Bool => t.1

/-- An image's CRC is good: the CRC-16 of bytes 0 to 253 equals bytes 254 and 255 (R153). -/
def imageCrcGood (img : List Byte) : Bool := (crc16 (img.take 254)).toNat == u16At img 254

/-- What a slot's content makes of its state: the CRC first, then validation (R153, R155). -/
def slotStateOf (cell : NvCell) : SlotState :=
  match cell with
  | .torn => .invalid .crc
  | .bytes img =>
    if img.length == imageLength && imageCrcGood img then
      match failingField img with
      | none => .valid
      | some n => .invalid (.field n)
    else .invalid .crc

/-! ## The built-in default profile (R154, Table 9-3) -/

/-- The characters "DEFAULT" followed by five spaces. -/
def builtInName : List Byte := [0x44, 0x45, 0x46, 0x41, 0x55, 0x4C, 0x54, 0x20, 0x20, 0x20, 0x20, 0x20]

/-- The built-in default profile. -/
def builtInProfile : Profile :=
  { name := builtInName
    revision := 0
    fmin := 20
    rs := 30
    rt := 150
    mf := 200
    qmax := 300
    e1 := 400
    e2 := 500
    e3 := 580
    h := 20
    cA := 1000
    cB := 900
    cC := 700
    cD := 450
    gB := 10
    gC := 20
    gD := 40
    ttrip := 680
    trestart := 500
    flowMin := 40
    flowDwell := 4
    fminSite := 50
    rsSite := 20
    rtSite := 120
    mfSite := 300
    jstart := 700
    jtrip := 950
    jfloor := 400
    pmin := 50
    lowPressureCeiling := 600
    ts := 50
    tm := 1000
    chainBlind := 500
    siteBlind := 500
    dwellArc := ⟨500, 16⟩
    dwellFlash := ⟨100, 4⟩
    dwellSurge := ⟨50, 2⟩
    dwellMismatch := ⟨200, 8⟩
    dwellThermal := ⟨3000, 0⟩
    dwellMeasurement := ⟨100, 0⟩
    tripWindow := 900
    lockoutLimit := 3
    rampStart := 100
    rampStep := 20
    recoverStep := 10
    caps := Quad.fill 700
    startSetPoints := Quad.fill 0
    arcMap := Oct.fill 0x0F
    coincidence := 500
    tn := 250
    autoStart := 0x00
    runOn := 120 }

/-- The dwell lengths of a class in a profile (R106, R109). -/
def dwellOf (p : Profile) (k : DwellClass) : DwellLengths :=
  match k with
  | .arc => p.dwellArc
  | .flash => p.dwellFlash
  | .surge => p.dwellSurge
  | .mismatch => p.dwellMismatch
  | .thermal => p.dwellThermal
  | .measurement => p.dwellMeasurement

/-- A chain is in an arc line's set: bit c of the line's byte (Table 9-1). -/
def inSet (set : Byte) (c : ChainNo) : Bool := set.getLsbD c.val

/-! ## Directory and lockout record (Table 9-5, R160) -/

/-- A three-byte record: its byte and the CRC-16 over it, high byte first. -/
def recordBytes (b : Byte) : List Byte := b :: bytes16 (crc16 [b]).toNat

/-- Byte 0 of a three-byte record whose CRC is good. -/
def recordByte (cell : NvCell) : Option Byte :=
  match cell with
  | .bytes [b, hi, lo] => if bytes16 (crc16 [b]).toNat = [hi, lo] then some b else none
  | _ => none

/-- The designation a valid directory holds. -/
def directoryContent (cell : NvCell) : Option Designation := (recordByte cell).bind designationOf

/-- The latches a valid lockout record holds: bit c for chain c, bits 4 to 7 zero. -/
def lockoutContent (cell : NvCell) : Option (Quad Bool) :=
  (recordByte cell).bind fun b => if b.toNat < 16 then some (Quad.ofFn fun c => b.getLsbD c.val) else none

/-- The byte of a lockout record. -/
def latchByte (latches : Quad Bool) : Byte := maskByte latches.toList

end Sys2Proof.Machine
end

