-- ==== Sys2Proof/Machine/Ceilings.lean ====
section
/-! DEFINITION. The arithmetic of chapter 3: the reflected ratio, the foldback line, the thermal bands and ceiling, and
the composition of the permitted level; and the same arithmetic for the site lines (section 4.2). -/

namespace Sys2Proof.Machine

/-! ## Ratio and foldback line -/

/-- The reflected ratio: 1000 × Q / F rounded by floor, at most 1000; absent below Fmin (R45, R73). -/
def reflectedRatio (fmin forward reflected : Nat) : Option Nat :=
  if fmin ≤ forward then some (min 1000 (1000 * reflected / forward)) else none

/-- The foldback line FL(x; s, t, f) (R47). -/
def foldback (x s t : Int) (f : Nat) : Nat :=
  if x ≤ s then 1000
  else if x < t then (1000 - (x - s) * (1000 - (f : Int)) / (t - s)).toNat
  else f

/-- The foldback line's trip condition: x at or beyond t (R47). -/
def foldbackTrips (x t : Int) : Bool := decide (t ≤ x)

/-- The mismatch ceiling M of a ratio; 1000 while it is absent (R46, R48). -/
def mismatchCeiling (p : Profile) (ratio : Option Nat) : Nat :=
  match ratio with
  | none => 1000
  | some r => foldback r p.rs p.rt p.mf

/-! ## Thermal bands (R50, R51) -/

/-- Step 1 from band C. -/
def riseFromC (p : Profile) (t : Int) : Band := if p.e3 + p.h ≤ t then .d else .c

/-- Step 1 from band B. -/
def riseFromB (p : Profile) (t : Int) : Band := if p.e2 + p.h ≤ t then riseFromC p t else .b

/-- Step 1 from band A. -/
def riseFromA (p : Profile) (t : Int) : Band := if p.e1 + p.h ≤ t then riseFromB p t else .a

/-- Step 1 of R50: while Tout is at or above the next band's lower edge plus H, the band steps up. -/
def bandRise (p : Profile) (from_ : Band) (t : Int) : Band :=
  match from_ with
  | .a => riseFromA p t
  | .b => riseFromB p t
  | .c => riseFromC p t
  | .d => .d

/-- Step 2 from band B. -/
def fallFromB (p : Profile) (t : Int) : Band := if t < p.e1 then .a else .b

/-- Step 2 from band C. -/
def fallFromC (p : Profile) (t : Int) : Band := if t < p.e2 then fallFromB p t else .c

/-- Step 2 of R50: while Tout is below the present band's lower edge, the band steps down. -/
def bandFall (p : Profile) (from_ : Band) (t : Int) : Band :=
  match from_ with
  | .a => .a
  | .b => fallFromB p t
  | .c => fallFromC p t
  | .d => if t < p.e3 then fallFromC p t else .d

/-- The band after an evaluation that brings `t` (R50). -/
def bandUpdate (p : Profile) (from_ : Band) (t : Int) : Band := bandFall p (bandRise p from_ t) t

/-- The band derived afresh, without hysteresis (R51). -/
def bandFresh (p : Profile) (tout : Option Int) : Band :=
  match tout with
  | none => .a
  | some t => if p.e3 ≤ t then .d else if p.e2 ≤ t then .c else if p.e1 ≤ t then .b else .a

/-- Θ within a band: its ceiling less its gradient times the rise above its lower edge, never below 0 (R52). -/
def bandCeiling (top gradient : Nat) (edge t : Int) : Nat :=
  (max 0 ((top : Int) - (gradient : Int) * max 0 (t - edge) / 10)).toNat

/-- The thermal ceiling Θ of a band and Tout; C_A while Tout is absent (R52). -/
def thermalCeiling (p : Profile) (band : Band) (tout : Option Int) : Nat :=
  match tout with
  | none => p.cA
  | some t =>
    match band with
    | .a => p.cA
    | .b => bandCeiling p.cB p.gB p.e1 t
    | .c => bandCeiling p.cC p.gC p.e2 t
    | .d => bandCeiling p.cD p.gD p.e3 t

/-! ## Composition (R57, R58) -/

/-- The least of the six components of a chain record. -/
def leastComponent (r : ChainRecord) : Nat :=
  min r.setPoint (min r.cap (min r.mismatch (min r.thermal (min r.site r.blind))))

/-- The first component, in limiter order, that equals P. -/
def firstLimiter (r : ChainRecord) (p : Nat) : Limiter :=
  if r.setPoint = p then .setpoint
  else if r.cap = p then .cap
  else if r.mismatch = p then .mismatch
  else if r.thermal = p then .thermal
  else if r.site = p then .site
  else .blind

/-- A composition: P and the limiter from the components as held (R57). -/
def compose (r : ChainRecord) : ChainRecord :=
  { r with permitted := leastComponent r, limiter := firstLimiter r (leastComponent r) }

/-- How A follows a composition (R58, R14): in RAMP and ACTIVE a P below A sets A to P, and a chain in RAMP whose A then
equals P enters ACTIVE; in every other state A is untouched. -/
def followComposition (r : ChainRecord) : ChainRecord :=
  match r.mode with
  | .ramp =>
    if r.permitted ≤ r.applied then { r with applied := r.permitted, mode := .active } else r
  | .active => { r with applied := min r.applied r.permitted }
  | _ => r

/-- A recomposition (R64). -/
def recompose (r : ChainRecord) : ChainRecord := followComposition (compose r)

/-! ## The evaluation's steps 1 to 6 (R60) -/

/-- The Tout a record holds, if any. -/
def heldTout (r : ChainRecord) : Option Int := r.readings.map (·.tout)

/-- Steps 1 to 6 of an evaluation: freshness and B, the readings, R, M, the band and Θ, and the composition (R60). -/
def evaluateRecord (p : Profile) (readings : ChainReadings) (returned : Bool) (r : ChainRecord) : ChainRecord :=
  let ratio := reflectedRatio p.fmin readings.forward readings.reflected
  let band := bandUpdate p r.band readings.tout
  compose
    { r with
      freshness := if returned then .fresh else r.freshness
      blind := if returned then 1000 else r.blind
      readings := some readings
      ratio := ratio
      mismatch := mismatchCeiling p ratio
      band := band
      thermal := thermalCeiling p band (some readings.tout) }

/-- The slow trip condition an evaluation finds, the first of REFL_ABS, MISMATCH and OVERTEMP (R49, R53, R61). -/
def slowTripFound (p : Profile) (readings : ChainReadings) (ratio : Option Nat) : Option TripCause :=
  if p.qmax < readings.reflected then some .reflAbs
  else if ratio.any fun r => decide (p.rt ≤ r) then some .mismatch
  else if p.ttrip ≤ readings.tout then some .overtemp
  else none

/-- What a profile activation makes of a chain's components (R67, steps 1 to 5). -/
def activateRecord (p : Profile) (c : ChainNo) (r : ChainRecord) : ChainRecord :=
  let ratio := r.readings.bind fun x => reflectedRatio p.fmin x.forward x.reflected
  let band := bandFresh p (heldTout r)
  { r with
    cap := p.caps.get c
    ratio := ratio
    mismatch := mismatchCeiling p ratio
    band := band
    thermal := thermalCeiling p band (heldTout r)
    blind := if r.freshness = .fresh then 1000 else p.chainBlind }

/-! ## The site lines (R73 to R76) -/

/-- The site record with its ratio, lines, low-pressure flag, pressure cap and evaluated ceiling formed from readings
under a profile. -/
def formSiteLines (p : Profile) (x : SiteReadings) (r : SiteRecord) : SiteRecord :=
  let ratio := reflectedRatio p.fminSite x.forward x.reflected
  let feeder := match ratio with
    | none => 1000
    | some v => foldback v p.rsSite p.rtSite p.mfSite
  let reject := foldback x.trej p.jstart p.jtrip p.jfloor
  let low := decide (x.pgas < p.pmin)
  let cap := if low then p.lowPressureCeiling else 1000
  { r with
    readings := some x
    ratio := ratio
    feederLine := feeder
    rejectLine := reject
    lowPressure := low
    pressureCap := cap
    evaluated := min feeder (min reject cap) }

/-- The feeder trip condition: Rf present and at or above Rt_site (R77). -/
def feederTripHolds (p : Profile) (r : SiteRecord) : Bool := r.ratio.any fun v => decide (p.rtSite ≤ v)

/-- The reject trip condition: Trej at or above Jtrip (R77). -/
def rejectTripHolds (p : Profile) (x : SiteReadings) : Bool := foldbackTrips x.trej p.jtrip

end Sys2Proof.Machine
end

