-- ==== Sys2Proof/Machine/Blocks.lean ====
section
/-! DEFINITION. The value each block takes at the end of start-up, from the profile chosen there: Table 1-3, R44, R86,
R104, R137, R144, R150, R162, R173. -/

namespace Sys2Proof.Machine

/-- The chain record of Table 1-3, in DISABLED with run-on remaining absent; P is composed once from its components
(R70). Where R25 places the chain follows after it. -/
def startRecord (p : Profile) (c : ChainNo) (tripList : List TripEntry) (latch : Bool) : ChainRecord :=
  compose
    { mode := .disabled none
      setPoint := p.startSetPoints.get c
      cap := p.caps.get c
      mismatch := 1000
      thermal := p.cA
      site := 1000
      blind := p.chainBlind
      permitted := 0
      applied := 0
      limiter := .setpoint
      readings := none
      ratio := none
      band := .a
      freshness := .lost
      flowRate := 0
      tripList := tripList
      latch := latch }

/-- An inbox with nothing in it. -/
def emptyInbox : ChainInbox :=
  { intake := [], flow := [], site := [], interlock := [], arcs := [], surges := [], ticks := 0, activations := [] }

/-- A Chain Supervisor at the end of start-up, before R25 places its chain. -/
def startChain (p : Profile) (c : ChainNo) (tripList : List TripEntry) (latch : Bool) : Chain :=
  { record := startRecord p c tripList latch, inbox := emptyInbox, profile := p }

/-- A group record at the end of start-up (R44). -/
def startGroup (ρ : Type) : GroupRecord ρ :=
  { last := none, freshness := .lost, staleDeadline := none, lostDeadline := none }

/-- A flow counter set at the end of start-up: its filter LOW; a line that is high then must first fall (R40, R44). -/
def startFlow (now : Nat) (high : Bool) : FlowCounter :=
  { count := 0, rate := 0, lowGates := 0, filter := { high := false, armed := !high, since := now } }

/-- The statistics record with every counter 0 (R35). -/
def startStatistics : IntakeStatistics :=
  { acceptedChain := Quad.fill 0, acceptedSite := 0, check := 0, group := 0, short := 0, fault := 0, duplicate := 0 }

/-- The gate time: 250 ms, in µs (R41). -/
def gateMicros : Nat := 250000

/-- The Measurement Intake at the end of start-up (R44). -/
def startIntake (now : Nat) (flows : Quad Bool) : Intake :=
  { receiver := .hunting []
    chainGroup := Quad.fill (startGroup ChainReadings)
    siteGroup := startGroup SiteReadings
    statistics := startStatistics
    flow := flows.map (startFlow now)
    gateDue := now + gateMicros }

/-- The site record at the end of start-up, the interlock state sampled from ILK (R86). -/
def startSiteRecord (ilk : Bool) : SiteRecord :=
  { readings := none, ratio := none, feederLine := 1000, rejectLine := 1000, lowPressure := false,
    pressureCap := 1000, evaluated := 1000, ceiling := 1000, feederTrip := false, rejectTrip := false,
    freshness := .lost, interlock := if ilk then .closed else .opened, filterSince := none }

/-- The Site Monitor at the end of start-up. -/
def startSite (p : Profile) (ilk : Bool) : SiteMonitor :=
  { record := startSiteRecord ilk, intake := [], activations := [], profile := p }

/-- A pulse filter at the end of start-up: idle, and a line that is high is taken as having risen then (R104, R127). -/
def startFilter (now : Nat) (high : Bool) : PulseFilter := if high then .timing now else .idle

/-- A fast line at the end of start-up (R104). -/
def startFastLine (now : Nat) (high : Bool) : FastLine := { filter := startFilter now high, count := 0 }

/-- The Fast Mute Unit at the end of start-up (R104). -/
def startFastMute (now : Nat) (p : Profile) (arcs : Oct Bool) (surges : Quad Bool) : FastMute :=
  { arcs := arcs.map (startFastLine now), surges := surges.map (startFastLine now), arcMap := p.arcMap,
    activations := [] }

/-- The nominal period in tracker units: Tnu = 10 × Tn (R128). -/
def periodUnits (tn : Nat) : Nat := 10 * tn

/-- The Frame Timing Reference at the end of start-up (R137). -/
def startTracker (now : Nat) (p : Profile) (fmk : Bool) : Tracker :=
  { tn := p.tn, origin := now, mode := .search none 0 (BitVec.ofNat 32 (periodUnits p.tn)), lastTick := 0,
    markers := 0, strays := 0, virtuals := 0, fallbacks := 0, locks := 0, losses := 0,
    filter := startFilter now fmk, activations := [] }

/-- The Level Bus Controller at the end of start-up (R144). -/
def startLevelBus : LevelBus :=
  { lastSent := Quad.fill 0, pending := Quad.fill none, inFlight := none, lastServed := 3 }

/-- The NV Controller with nothing pending and nothing in progress (R162, step 5). -/
def idleNv : NvController :=
  { lockoutPending := false, directoryPending := false, slotPending := none, inProgress := none }

/-- No notice source. -/
def noNotices : NoticeSet := { chains := Quad.fill false, site := false, capture := false }

/-- No pending flag. -/
def noFlags : NoticeFlags := { chains := Quad.fill none, site := none, capture := none }

/-- The Control Link at the end of start-up; the rate straps are kept (R173). -/
def startLink (bsel1 bsel0 : Bool) : ControlLink :=
  { bsel1 := bsel1, bsel0 := bsel0, receiver := .hunting, inHand := none, reply := none, overlap := none,
    noticeMask := noNotices, noticePending := noFlags, transmitting := none }

/-- The output lines with every line asserted, as they stand throughout reset and start-up (R145, R148, R150). -/
def assertedLines : OutputLines := { inhibit := Quad.fill true, cooling := Quad.fill true, alarm := true }

/-- The Capture Queue after a power-on reset (R126). -/
def emptyCapture : CaptureQueue := { records := [], next := 0, handed := [] }

/-- An erased record of `n` bytes (R153). -/
def erasedCell (n : Nat) : NvCell := .bytes (List.replicate n Config.erasedByte)

/-- A nonvolatile array in which nothing has been written (assumption 5). -/
def erasedArray : NvArray :=
  { directory := erasedCell 3, lockout := erasedCell 3, slots := Trio.fill (erasedCell imageLength) }

/-- The designation an active profile came from, as start-up finds it when nothing valid is stored (R162). -/
def startStore (p : Profile) (source directory : Designation) (slots : Trio SlotState) : ProfileStore :=
  { active := p, source := source, directory := directory, slots := slots, load := .closed }

/-- The alarm reasons with no chain locked out (R150). -/
def startAlarms (defaultProfile directoryFault lockoutRecordFault : Bool) : AlarmReasons :=
  { lockoutChains := Quad.fill false, siteLost := true, defaultProfile := defaultProfile,
    directoryFault := directoryFault, lockoutRecordFault := lockoutRecordFault }

end Sys2Proof.Machine
end

