-- ==== Sys2Proof/Machine/State.lean ====
section
/-! DEFINITION. The machine's state: the queue of waiting commands, the time, the input and output lines and the state
of every block of section 2.1; the reasons a step can stop; and the state right after a power-on reset. -/

namespace Sys2Proof.Machine

/-- The state of the MJ-440. Plain data throughout; `time` is the microseconds since power-on, of which the site clock
and the tracker time are read (assumption 1). -/
structure State where
  pending  : List Instr
  time     : Nat
  phase    : Phase
  pins     : Pins
  lines    : OutputLines
  intake   : Intake
  chains   : Quad Chain
  site     : SiteMonitor
  fastMute : FastMute
  tracker  : Tracker
  levelBus : LevelBus
  alarms   : AlarmReasons
  capture  : CaptureQueue
  store    : ProfileStore
  nv       : NvController
  array    : NvArray
  link     : ControlLink
  deriving DecidableEq, Repr

/-- The faults of the machine: none. The manual names no event that stops the part; what it calls store faults are
alarm reasons (R149), and a malformed frame is discarded or refused by a reply (R29, R165, R166). -/
inductive Fault
  deriving DecidableEq, Repr

/-- The refusals of the machine. -/
inductive Refusal
  /-- Raised by an arm of `exec` for a command that has no meaning yet, by its mnemonic; safe: the model stops where the
  part goes on. No arm raises it: every command of the table has its meaning. -/
  | notModelled (mnemonic : String)
  deriving DecidableEq, Repr

/-- The input lines at State.reset: the levels of Config, RST_N high (assumption 5). -/
def resetPins : Pins :=
  { arcs := Oct.fill Config.resetLineLevel, surges := Quad.fill Config.resetLineLevel, ilk := Config.resetLineLevel,
    flows := Quad.fill Config.resetLineLevel, fmk := Config.resetLineLevel, rstN := true }

/-- Right after a power-on reset: the site clock at 0, the trip lists and the Capture Queue empty, every output line
asserted, and start-up begun (R163). Each block stands at its start-up values under the built-in default until
start-up ends and sets them (R162; assumptions 5 and 6). -/
def State.reset : State :=
  { pending := []
    time := 0
    phase := .startUp 0
    pins := resetPins
    lines := assertedLines
    intake := startIntake 0 resetPins.flows
    chains := Quad.ofFn fun c => startChain builtInProfile c [] false
    site := startSite builtInProfile resetPins.ilk
    fastMute := startFastMute 0 builtInProfile resetPins.arcs resetPins.surges
    tracker := startTracker 0 builtInProfile resetPins.fmk
    levelBus := startLevelBus
    alarms := startAlarms true false false
    capture := emptyCapture
    store := startStore builtInProfile .builtIn .builtIn (Trio.fill (.invalid .crc))
    nv := idleNv
    array := erasedArray
    link := startLink Config.resetBsel1 Config.resetBsel0 }

end Sys2Proof.Machine
end

