-- ==== Sys2Proof/Machine/Flags.lean ====
section
/-! DEFINITION. The clocks, the notice flags, the alarm reasons and the output lines: the part's status bits. -/

namespace Sys2Proof.Machine

/-! ## Clocks -/

/-- Time passes before a command (assumption 1). -/
def elapse (dt : Nat) (s : State) : State := { s with time := s.time + dt }

/-- The site clock: milliseconds since power-on, wrapping at 2^32 (scope section 5.1). -/
def siteClock (s : State) : Word32 := BitVec.ofNat 32 (s.time / 1000)

/-- The tracker unit an instant (µs since power-on) lies in: units of 10 µs since the end of the most recent start-up,
wrapping at 2^32 (R128). -/
def trackerUnit (t : Tracker) (instant : Nat) : Word32 := BitVec.ofNat 32 ((instant - t.origin) / 10)

/-- The tracker time (R128). -/
def trackerTime (s : State) : Word32 := trackerUnit s.tracker s.time

/-- The difference of two instants of a wrapping count (scope section 5.1). -/
def sinceTick (now start : Word32) : Nat := (now - start).toNat

/-- An instant of a wrapping count has been reached: it lies less than half the count's range back. -/
def reached (now due : Word32) : Bool := decide (sinceTick now due < 2147483648)

/-- A counter that stays at 65,535 once there (R35, R90, R128). -/
def bump (n : Nat) : Nat := if n < 65535 then n + 1 else n

/-! ## Chains in State -/

/-- Chain `c`'s Supervisor. -/
def chainOfState (s : State) (c : ChainNo) : Chain := s.chains.get c

/-- Chain `c`'s record. -/
def recordOf (s : State) (c : ChainNo) : ChainRecord := (s.chains.get c).record

/-- The profile active in chain `c`'s rules (R159). -/
def profileOf (s : State) (c : ChainNo) : Profile := (s.chains.get c).profile

/-- What waits for chain `c`. -/
def inboxOf (s : State) (c : ChainNo) : ChainInbox := (s.chains.get c).inbox

/-- Chain `c`'s Supervisor replaced. -/
def setChain (c : ChainNo) (x : Chain) (s : State) : State := { s with chains := s.chains.set c x }

/-- Chain `c`'s record replaced. -/
def setRecord (c : ChainNo) (r : ChainRecord) (s : State) : State :=
  setChain c { chainOfState s c with record := r } s

/-- Chain `c`'s inbox replaced. -/
def setInbox (c : ChainNo) (b : ChainInbox) (s : State) : State :=
  setChain c { chainOfState s c with inbox := b } s

/-- An event added to every chain's inbox (R1). -/
def deliverAll (f : ChainInbox → ChainInbox) (s : State) : State :=
  { s with chains := s.chains.map fun x => { x with inbox := f x.inbox } }

/-- The name of the state a mode stands for (Table 1-5). -/
def modeState (m : ChainMode) : ChainState :=
  match m with
  | .disabled _ => .disabled
  | .qualify _ => .qualify
  | .ramp => .ramp
  | .active => .active
  | .classify _ _ _ => .classify
  | .holdoff _ _ => .holdoff
  | .lockout => .lockout

/-- The chain is in RAMP or ACTIVE, and which. -/
def runState (m : ChainMode) : Option RunState :=
  match m with
  | .ramp => some .ramp
  | .active => some .active
  | _ => none

/-! ## Notice flags (R169) -/

/-- A flag raised at an instant; one already raised stays raised, since the instant it was. -/
def raisedAt (now : Nat) (flag : Option Nat) : Option Nat := some (flag.getD now)

/-- Chain `c`'s CHAIN_NOTICE flag raised, if its source is enabled. -/
def raiseChain (c : ChainNo) (s : State) : State :=
  if s.link.noticeMask.chains.get c then
    { s with link := { s.link with
        noticePending := { s.link.noticePending with
          chains := s.link.noticePending.chains.set c (raisedAt s.time (s.link.noticePending.chains.get c)) } } }
  else s

/-- The SITE_NOTICE flag raised, if its source is enabled. -/
def raiseSite (s : State) : State :=
  if s.link.noticeMask.site then
    { s with link := { s.link with
        noticePending := { s.link.noticePending with site := raisedAt s.time s.link.noticePending.site } } }
  else s

/-- The CAPTURE_NOTICE flag raised, if its source is enabled. -/
def raiseCapture (s : State) : State :=
  if s.link.noticeMask.capture then
    { s with link := { s.link with
        noticePending := { s.link.noticePending with capture := raisedAt s.time s.link.noticePending.capture } } }
  else s

/-- A set of sources holds a source. -/
def holdsSource (set : NoticeSet) (source : NoticeSource) : Bool :=
  match source with
  | .chain c => set.chains.get c
  | .site => set.site
  | .capture => set.capture

/-- The flags of the sources in a set; the others removed. -/
def keptFlags (set : NoticeSet) (flags : NoticeFlags) : NoticeFlags :=
  { chains := Quad.ofFn fun c => if set.chains.get c then flags.chains.get c else none
    site := if set.site then flags.site else none
    capture := if set.capture then flags.capture else none }

/-- The transmit line after a mask is replaced at `now`: a notice of a source it disables whose flag was raised at `now`
itself has not been sent a bit of, and is not sent; every other message goes on (R169, R171; assumption 27). -/
def keptMessage (set : NoticeSet) (now : Nat) (line : Option Transmission) : Option Transmission :=
  line.filter fun x =>
    match x.item with
    | .notice source raised => holdsSource set source || decide (raised ≠ now)
    | .reply => true
    | .busy => true

/-- SET_NOTICES: the mask replaced, and the flag of every source it clears removed; a change that falls together with it
sends no notice (R169). -/
def replaceMask (mask : NoticeSet) (s : State) : State :=
  { s with link := { s.link with
      noticeMask := mask
      noticePending := keptFlags mask s.link.noticePending
      transmitting := keptMessage mask s.time s.link.transmitting } }

/-! ## Alarm reasons (R149) -/

/-- Any chain is named by CHAIN_LOCKOUT. -/
def lockoutReason (a : AlarmReasons) : Bool := a.lockoutChains.q0 || a.lockoutChains.q1 || a.lockoutChains.q2 || a.lockoutChains.q3

/-- The set of alarm reasons is not empty. -/
def anyReason (a : AlarmReasons) : Bool :=
  lockoutReason a || a.siteLost || a.defaultProfile || a.directoryFault || a.lockoutRecordFault

/-- The reason set replaced; a change raises the SITE_NOTICE flag (R150). -/
def setAlarms (a : AlarmReasons) (s : State) : State :=
  if a = s.alarms then s else raiseSite { s with alarms := a }

/-- Chain `c` joins or leaves the chains of CHAIN_LOCKOUT. -/
def setLockoutReason (c : ChainNo) (holds : Bool) (s : State) : State :=
  setAlarms { s.alarms with lockoutChains := s.alarms.lockoutChains.set c holds } s

/-- SITE_LOST joins or leaves. -/
def setSiteLostReason (holds : Bool) (s : State) : State := setAlarms { s.alarms with siteLost := holds } s

/-- DEFAULT_PROFILE joins or leaves. -/
def setDefaultReason (holds : Bool) (s : State) : State := setAlarms { s.alarms with defaultProfile := holds } s

/-! ## Output lines (chapter 8) -/

/-- Every output line is held asserted: without supply, in reset and in start-up (R145, R148, R150). -/
def heldAsserted (p : Phase) : Bool :=
  match p with
  | .unpowered => true
  | .held => true
  | .startUp _ => true
  | .running => false
  | .resetDue => false

/-- A chain's inhibit line is released while, and only while, the chain is in RAMP or ACTIVE (R145). -/
def inhibitFor (r : ChainRecord) : Bool := (runState r.mode).isNone

/-- The conditions that assert a chain's cooling-demand line (R147). -/
def coolingFor (r : ChainRecord) : Bool :=
  match r.mode with
  | .disabled runOn => runOn.isSome || decide (r.band ≠ .a)
  | _ => true

/-- The lines as the chains and the alarm reasons give them. -/
def linesOf (s : State) : OutputLines :=
  if heldAsserted s.phase then assertedLines
  else
    { inhibit := s.chains.map fun x => inhibitFor x.record
      cooling := s.chains.map fun x => coolingFor x.record
      alarm := anyReason s.alarms }

/-- Output Drive carries the states to its lines. -/
def driveLines (s : State) : State := { s with lines := linesOf s }

end Sys2Proof.Machine
end

