-- ==== Sys2Proof/Machine/Ops.lean ====
section
/-! DEFINITION. The operations the commands share: handing a level to the bus (R140, R142), requesting a nonvolatile
write (R118, R160, R161), handing over a capture record (R122), the qualification checks (R9, R10), the trip entry
(R107), the lockout decision (R111), and committing a chain record with all that follows from its change. -/

namespace Sys2Proof.Machine

/-- A command that the part takes only while it runs; at any other time nothing but the time changes. -/
def whileRunning (f : State → State) (s : State) : State := if s.phase = .running then f s else s

/-! ## The level bus (section 8.2) -/

/-- A level-bus transfer's length in µs (R141). -/
def transferMicros : Nat := 12

/-- The chain's bus value: the level in flight for it, else its last sent value (section 8.2). -/
def busValue (b : LevelBus) (c : ChainNo) : Nat :=
  match b.inFlight with
  | some t => if t.chain = c then t.level else b.lastSent.get c
  | none => b.lastSent.get c

/-- The value a chain's pending value becomes when a level is handed over (R140). -/
def pendingFor (b : LevelBus) (c : ChainNo) (a : Nat) : Option Nat := if a = busValue b c then none else some a

/-- The chain's pending value is a reduction (R142). -/
def reductionPending (b : LevelBus) (c : ChainNo) : Bool := (b.pending.get c).any fun v => decide (v < b.lastSent.get c)

/-- The chain's pending value is a raise (R142). -/
def raisePending (b : LevelBus) (c : ChainNo) : Bool := (b.pending.get c).any fun v => decide (b.lastSent.get c < v)

/-- The four chains in the cyclic order that begins after `c`: `c` itself comes last (R142). -/
def cyclicAfter (c : ChainNo) : List ChainNo := [c + 1, c + 2, c + 3, c]

/-- The arbiter's choice: reductions before raises, and within the class the first chain after the last served (R142). -/
def busWinner (b : LevelBus) : Option ChainNo :=
  match (cyclicAfter b.lastServed).find? (reductionPending b) with
  | some c => some c
  | none => (cyclicAfter b.lastServed).find? (raisePending b)

/-- A transfer of chain `c`'s pending value starts at `now` (R141). -/
def beginTransfer (now : Nat) (c : ChainNo) (b : LevelBus) : LevelBus :=
  match b.pending.get c with
  | none => b
  | some v =>
    { b with pending := b.pending.set c none, inFlight := some ⟨c, v, now⟩, lastServed := c }

/-- The bus, when free, starts the transfer its arbiter chooses (R142). -/
def arbitrate (now : Nat) (b : LevelBus) : LevelBus :=
  match b.inFlight with
  | some _ => b
  | none =>
    match busWinner b with
    | none => b
    | some c => beginTransfer now c b

/-- A change of a chain's A handed to the Level Bus Controller, and a transfer started if the bus is free (R140, R142). -/
def handOffBus (now : Nat) (c : ChainNo) (a : Nat) (b : LevelBus) : LevelBus :=
  arbitrate now { b with pending := b.pending.set c (pendingFor b c a) }

/-- `handOffBus` in the state. -/
def handOff (c : ChainNo) (a : Nat) (s : State) : State :=
  { s with levelBus := handOffBus s.time c a s.levelBus }

/-- The four bytes of a level word (R141, Table 8-3). -/
def levelWord (c : ChainNo) (level : Nat) : List Byte :=
  let b1 := BitVec.ofNat 8 (0xA0 + c.val)
  let b2 := BitVec.ofNat 8 (level / 256)
  let b3 := BitVec.ofNat 8 level
  [b1, b2, b3, ~~~(b1 ^^^ b2 ^^^ b3)]

/-- The instant at which the zeroing of a start-up begins: until then the bus, which a reset takes to idle, stands idle
(R144; when the zeroing begins is assumption 26). -/
def zeroingStart (began : Nat) : Nat := began + Config.zeroingDelay

/-- The zeroing's word and the µs since its transfer began: level 0 to each chain in chain order, 12 µs a chain (R144). -/
def zeroingWord (since : Nat) : Option (List Byte × Nat) :=
  if h : since / transferMicros < 4 then some (levelWord ⟨since / transferMicros, h⟩ 0, since % transferMicros) else none

/-- The word on the level bus and the µs since its transfer began: the transfer in flight, or early in start-up that of
the zeroing; none from a reset until then, since a reset stops a transfer part-way (R141, R144; when the zeroing begins is
assumption 26). -/
def busWord (s : State) : Option (List Byte × Nat) :=
  match s.phase with
  | .startUp began => if zeroingStart began ≤ s.time then zeroingWord (s.time - zeroingStart began) else none
  | .running => s.levelBus.inFlight.map fun t => (levelWord t.chain t.level, s.time - t.started)
  | .resetDue => s.levelBus.inFlight.map fun t => (levelWord t.chain t.level, s.time - t.started)
  | _ => none

/-- The levels of the two bus lines. -/
structure BusLevels where
  lclk  : Bool
  ldata : Bool
  deriving DecidableEq, Repr

/-- The bus idle: LCLK high, LDATA low (R141). -/
def idleBus : BusLevels := ⟨true, false⟩

/-- A byte's bits as LDATA carries them, the most significant first (R141). -/
def bitsOfByte (b : Byte) : List Bool := (List.range 8).map b.getMsbD

/-- One bit period in two halves: LDATA changes as LCLK falls, and is stable as it rises (R141; that the two halves are
equal is assumption 20). -/
def bitPeriod (b : Bool) : List BusLevels := [⟨false, b⟩, ⟨true, b⟩]

/-- A transfer in half bit periods: the bits of its four bytes in table order, then four bit periods of idle; 72 halves in
12 µs (R141). -/
def transferLevels (word : List Byte) : List BusLevels :=
  (word.flatMap bitsOfByte).flatMap bitPeriod ++ List.replicate 8 idleBus

/-- The levels of LCLK and LDATA in the `k`-th sixth of the µs the state stands at: those of the transfer under way, and
the idle levels between transfers and in reset (R141, R144). -/
def busLines (s : State) (k : Fin 6) : BusLevels :=
  match busWord s with
  | some (word, since) => (transferLevels word).getD (6 * since + k.val) idleBus
  | none => idleBus

/-! ## Nonvolatile writes (section 9.4) -/

/-- The length of a lockout record or directory write in µs (Table 9-6). -/
def recordWriteMicros : Nat := 8000

/-- The length of a slot write in µs (Table 9-6). -/
def slotWriteMicros : Nat := 60000

/-- The four lockout latches as they stand. -/
def latchesOf (s : State) : Quad Bool := s.chains.map fun x => x.record.latch

/-- The NV Controller, when idle, starts the first pending write in the order lockout record, directory, slot; what it
writes is taken at its start (R161, R118, R160). -/
def startWrite (s : State) : State :=
  match s.nv.inProgress with
  | some _ => s
  | none =>
    if s.nv.lockoutPending then
      { s with nv := { s.nv with lockoutPending := false, inProgress := some ⟨.lockout (latchesOf s), s.time⟩ } }
    else if s.nv.directoryPending then
      { s with nv := { s.nv with directoryPending := false, inProgress := some ⟨.directory s.store.directory, s.time⟩ } }
    else
      match s.nv.slotPending with
      | some w => { s with nv := { s.nv with slotPending := none, inProgress := some ⟨.slot w, s.time⟩ } }
      | none => s

/-- A lockout record write requested: met by one already pending, else joining the pending set (R118). -/
def requestLockoutWrite (s : State) : State := startWrite { s with nv := { s.nv with lockoutPending := true } }

/-- A directory write requested (R160). -/
def requestDirectoryWrite (s : State) : State := startWrite { s with nv := { s.nv with directoryPending := true } }

/-- A slot write of an image joins the pending set (R158). -/
def requestSlotWrite (w : SlotWrite) (s : State) : State :=
  startWrite { s with nv := { s.nv with slotPending := some w } }

/-! ## Capture records on their way to the queue (R119, R122) -/

/-- A record takes its place among those handed over: after every record handed earlier, and among those of the same
instant in the order chains 0 to 3, then the Site Monitor. -/
def placeRecord (x : HandedRecord) (l : List HandedRecord) : List HandedRecord :=
  match l with
  | [] => [x]
  | y :: ys => if y.at_ = x.at_ ∧ x.source < y.source then x :: y :: ys else y :: placeRecord x ys

/-- A record handed to the Capture Queue at the moment it is made. -/
def handRecord (source : Fin 5) (rec_ : CaptureRecord) (s : State) : State :=
  { s with capture := { s.capture with handed := placeRecord ⟨source, s.time, rec_⟩ s.capture.handed } }

/-- The source number of a chain. -/
def chainSource (c : ChainNo) : Fin 5 := ⟨c.val, by omega⟩

/-- The tracker's state. -/
def trackerStateOf (t : Tracker) : TrackerState :=
  match t.mode with
  | .search _ _ _ => .search
  | .locked _ _ => .locked

/-! ## Qualification checks (R9, R10) -/

/-- Every check, in the order of Table 1-4. -/
def allChecks : List Check :=
  [.chainFresh, .siteFresh, .temp, .flow, .arcClear, .surgeClear, .interlock, .siteOk, .latch]

/-- An arc line of the map's set for the chain is high (R9, R88). -/
def mappedArcHigh (pins : Pins) (map : Oct Byte) (c : ChainNo) : Bool :=
  (pins.arcs.toList.zip map.toList).any fun (high, set) => high && inSet set c

/-- A check of Table 1-4 passes for chain `c` holding record `r`, on the values held at this moment. -/
def checkPasses (s : State) (c : ChainNo) (r : ChainRecord) (k : Check) : Bool :=
  let p := profileOf s c
  match k with
  | .chainFresh => decide ((s.intake.chainGroup.get c).freshness = .fresh)
  | .siteFresh => decide (s.intake.siteGroup.freshness = .fresh)
  | .temp => (heldTout r).any fun t => decide (t < p.trestart)
  | .flow => decide (p.flowMin ≤ r.flowRate)
  | .arcClear => !mappedArcHigh s.pins p.arcMap c
  | .surgeClear => !s.pins.surges.get c
  | .interlock => decide (s.site.record.interlock = .closed)
  | .siteOk => !s.site.record.feederTrip && !s.site.record.rejectTrip
  | .latch => !r.latch

/-- The checks that fail, in the order of Table 1-4. -/
def failingChecks (s : State) (c : ChainNo) (r : ChainRecord) : List Check :=
  allChecks.filter fun k => !checkPasses s c r k

/-- A name added to a set of checks; a name already in it stays once (R12). -/
def addCheck (k : Check) (set : List Check) : List Check := allChecks.filter fun x => decide (x = k) || set.contains x

/-- Entry to QUALIFY by any transition: the set is formed, A is 0 (R10). -/
def enterQualify (s : State) (c : ChainNo) (r : ChainRecord) : ChainRecord :=
  { r with mode := .qualify (failingChecks s c r), applied := 0 }

/-- A name added to the set of a chain in QUALIFY; any other chain is unchanged (R12). -/
def addFailure (k : Check) (r : ChainRecord) : ChainRecord :=
  match r.mode with
  | .qualify set => { r with mode := .qualify (addCheck k set) }
  | _ => r

/-! ## Committing a chain record -/

/-- Chain `c`'s record becomes `r`, with all that follows from the change: a change of A goes to the level bus (R140), a
change of state or limiter raises the CHAIN_NOTICE flag (R59, R169), a change of the latch requests a lockout record
write (R118), and entering or leaving LOCKOUT changes the alarm reasons (R149). -/
def commitChain (c : ChainNo) (r : ChainRecord) (s : State) : State :=
  let old := recordOf s c
  let s1 := setRecord c r s
  let s2 := if r.applied = old.applied then s1 else handOff c r.applied s1
  let s3 := if modeState r.mode = modeState old.mode ∧ r.limiter = old.limiter then s2 else raiseChain c s2
  let s4 := if r.latch = old.latch then s3 else requestLockoutWrite s3
  if decide (modeState r.mode = .lockout) = decide (modeState old.mode = .lockout) then s4
  else setLockoutReason c (decide (modeState r.mode = .lockout)) s4

/-! ## DISABLED (R8) -/

/-- Microseconds in a second. -/
def secondMicros : Nat := 1000000

/-- Entry to DISABLED from any other state: A is 0 and the run-on timer starts, unless the run-on time is 0. -/
def enterDisabled (now : Nat) (p : Profile) (r : ChainRecord) : ChainRecord :=
  { r with mode := .disabled (if p.runOn = 0 then none else some (now + p.runOn * secondMicros)), applied := 0 }

/-! ## Trips (chapter 6) -/

/-- A cause's weight (Table 6-1). -/
def causeWeight (k : TripCause) : Nat :=
  match k with
  | .arcConfirmed => 2
  | .arcFlash => 1
  | .surge => 1
  | .reflAbs => 1
  | .mismatch => 1
  | .overtemp => 1
  | .flowLoss => 1
  | .measLost => 0
  | .feederMismatch => 1
  | .rejectOvertemp => 1
  | .siteMeasLost => 0
  | .interlock => 0

/-- A cause's dwell class (Table 6-1); INTERLOCK is no chain trip and has none. -/
def causeClass (k : TripCause) : Option DwellClass :=
  match k with
  | .arcConfirmed => some .arc
  | .arcFlash => some .flash
  | .surge => some .surge
  | .reflAbs => some .mismatch
  | .mismatch => some .mismatch
  | .overtemp => some .thermal
  | .flowLoss => some .thermal
  | .measLost => some .measurement
  | .feederMismatch => some .mismatch
  | .rejectOvertemp => some .thermal
  | .siteMeasLost => some .measurement
  | .interlock => none

/-- The weight sum of a recent trip list (R113). -/
def weightSum (l : List TripEntry) : Nat := (l.map fun e => causeWeight e.cause).sum

/-- Step 2 of the trip entry: a cause of weight above 0 appends an entry (R107, R114). -/
def appendTrip (cause : TripCause) (tripTime : Word32) (l : List TripEntry) : List TripEntry :=
  if causeWeight cause = 0 then l else l ++ [⟨tripTime, cause⟩]

/-- The age of an entry, in ms (R113). -/
def entryAge (clock : Word32) (e : TripEntry) : Nat := sinceTick clock e.tripTime

/-- The entries whose age has not reached the trip window (R111, R115). -/
def ageList (p : Profile) (clock : Word32) (l : List TripEntry) : List TripEntry :=
  l.filter fun e => decide (entryAge clock e < p.tripWindow * 1000)

/-- A dwell at entry to HOLDOFF, of the cause's class in the profile active at that moment (R109). -/
def newDwell (now : Nat) (p : Profile) (cause : TripCause) : Dwell :=
  let lengths := match causeClass cause with
    | some k => dwellOf p k
    | none => ⟨0, 0⟩
  ⟨lengths, now, lengths.ticks⟩

/-- The dwell's time has been met (R110). -/
def dwellTimeMet (now : Nat) (d : Dwell) : Bool := decide (d.startedAt + d.lengths.time * 10000 ≤ now)

/-- Entry to HOLDOFF with a final cause: A is 0 (R107, steps 1 and 4). -/
def enterHoldoff (now : Nat) (p : Profile) (cause : TripCause) (r : ChainRecord) : ChainRecord :=
  { r with mode := .holdoff cause (newDwell now p cause), applied := 0 }

/-- The capture record of a slow trip: the chain as the event left it just before the trip entry, with A as it stood
when the event was taken (R108). -/
def slowCapture (s : State) (c : ChainNo) (cause : TripCause) (tripTime : Word32) (run : RunState) (appliedBefore : Nat)
    (r : ChainRecord) : CaptureRecord :=
  { cause := cause
    firstInput := none
    arcLine := none
    tripTime := tripTime
    siteCeiling := r.site
    tracker := trackerStateOf s.tracker
    chainPart := some
      { chain := c, stateAtTrip := run, applied := appliedBefore, permitted := r.permitted, limiter := r.limiter,
        readings := r.readings, ratio := r.ratio, band := r.band, flowRate := r.flowRate,
        weightSum := weightSum (appendTrip cause tripTime r.tripList) } }

/-- The capture record of a fast trip: the held snapshot with the final cause and the weight sum after the entry
(R99, R108). -/
def fastCapture (c : ChainNo) (cause : TripCause) (x : Snapshot) (tripList : List TripEntry) : CaptureRecord :=
  { cause := cause
    firstInput := some x.firstInput
    arcLine := x.arcLine
    tripTime := x.tripTime
    siteCeiling := x.siteCeiling
    tracker := x.tracker
    chainPart := some
      { chain := c, stateAtTrip := x.stateAtTrip, applied := x.applied, permitted := x.permitted,
        limiter := x.limiter, readings := x.readings, ratio := x.ratio, band := x.band, flowRate := x.flowRate,
        weightSum := weightSum tripList } }

/-- The trip entry of a slow trip (R107): the record `r` is the chain as the event left it, `run` and `appliedBefore`
the state and A it had when the event was taken. -/
def slowTrip (c : ChainNo) (cause : TripCause) (tripTime : Word32) (run : RunState) (appliedBefore : Nat)
    (r : ChainRecord) (s : State) : State :=
  let r1 := enterHoldoff s.time (profileOf s c) cause { r with tripList := appendTrip cause tripTime r.tripList }
  commitChain c r1 (handRecord (chainSource c) (slowCapture s c cause tripTime run appliedBefore r) s)

/-- The trip list of a fast trip after its entry (R99, step 2). -/
def fastTripList (cause : TripCause) (x : Snapshot) (r : ChainRecord) : List TripEntry :=
  appendTrip cause x.tripTime r.tripList

/-! ## The end of a dwell (R111) -/

/-- The lockout decision: aged entries leave, and the weight sum decides between LOCKOUT with the latch set and
QUALIFY. -/
def decideLockout (s : State) (c : ChainNo) (r : ChainRecord) : ChainRecord :=
  let r1 := { r with tripList := ageList (profileOf s c) (siteClock s) r.tripList }
  if (profileOf s c).lockoutLimit ≤ weightSum r1.tripList then { r1 with mode := .lockout, latch := true, applied := 0 }
  else enterQualify s c r1

/-! ## Site events handed to the chains (R76, R77, R80, R81, R82) -/

/-- A changed X, as what a site event delivers (R76). -/
def changedCeiling (before after : Nat) : Option Nat := if after = before then none else some after

/-- Nothing is left of what a site event delivered. -/
def SiteDelivery.isEmpty (x : SiteDelivery) : Bool := x.ceiling.isNone && x.trip.isNone && !x.loss

/-- What a site event delivers joins each chain's inbox after what earlier ones delivered (R82). -/
def deliverSite (x : SiteDelivery) (s : State) : State :=
  if x.isEmpty then s else deliverAll (fun b => { b with site := b.site ++ [x] }) s

/-- What still waits after a part of the front delivery was taken: the rest of it, if anything, and the later ones. -/
def afterTaking (x : SiteDelivery) (rest : List SiteDelivery) : List SiteDelivery :=
  if x.isEmpty then rest else x :: rest

/-- A frame tick is delivered to the four chains (R135). -/
def deliverTick (s : State) : State := deliverAll (fun b => { b with ticks := b.ticks + 1 }) s

end Sys2Proof.Machine
end

