-- ==== Sys2Proof/Machine/Messages.lean ====
section
/-! DEFINITION. The bodies of replies and notices (Table 10-2, R167, R170), refusals (Table 10-3), and the transmit
line (R171). -/

namespace Sys2Proof.Machine

/-! ## Codes (Table 10-5) -/

/-- Chain state. -/
def stateCode (x : ChainState) : Nat :=
  match x with
  | .disabled => 0
  | .qualify => 1
  | .ramp => 2
  | .active => 3
  | .classify => 4
  | .holdoff => 5
  | .lockout => 6

/-- State at trip, coded as a chain state. -/
def runCode (x : RunState) : Nat :=
  match x with
  | .ramp => 2
  | .active => 3

/-- Limiter. -/
def limiterCode (x : Limiter) : Nat :=
  match x with
  | .setpoint => 0
  | .cap => 1
  | .mismatch => 2
  | .thermal => 3
  | .site => 4
  | .blind => 5

/-- Band. -/
def bandCode (x : Band) : Nat :=
  match x with
  | .a => 0
  | .b => 1
  | .c => 2
  | .d => 3

/-- Freshness. -/
def freshnessCode (x : Freshness) : Nat :=
  match x with
  | .fresh => 0
  | .stale => 1
  | .lost => 2

/-- Trip cause, in the row order of Table 6-1. -/
def causeCode (x : TripCause) : Nat :=
  match x with
  | .arcConfirmed => 0
  | .arcFlash => 1
  | .surge => 2
  | .reflAbs => 3
  | .mismatch => 4
  | .overtemp => 5
  | .flowLoss => 6
  | .measLost => 7
  | .feederMismatch => 8
  | .rejectOvertemp => 9
  | .siteMeasLost => 10
  | .interlock => 11

/-- First input. -/
def inputCode (x : FirstInput) : Nat :=
  match x with
  | .arc => 0
  | .surge => 1

/-- Tracker state. -/
def trackerCode (x : TrackerState) : Nat :=
  match x with
  | .search => 0
  | .locked => 1

/-- Interlock state. -/
def interlockCode (x : Interlock) : Nat :=
  match x with
  | .closed => 0
  | .opened => 1

/-- Slot state. -/
def slotStateCode (x : SlotState) : Nat :=
  match x with
  | .valid => 0
  | .invalid _ => 1
  | .writing => 2

/-- Load state. -/
def loadCode (x : Load) : Nat :=
  match x with
  | .closed => 0
  | .opened _ _ _ _ => 1
  | .committing _ => 2

/-- A slot finding: its code and one byte, the failing field or 0. -/
def findingBytes (x : Finding) : List Byte :=
  match x with
  | .crc => [0x00, 0x00]
  | .field n => 0x01 :: bytes8 n

/-- A qualify-failure set as a two-byte bit mask, bit n for the check of code n. -/
def checksBytes (set : List Check) : List Byte :=
  let flags := allChecks.map fun k => set.contains k
  [maskByte (flags.drop 8), maskByte (flags.take 8)]

/-- An alarm reason set as a bit mask, in the row order of Table 8-4. -/
def alarmByte (a : AlarmReasons) : Byte :=
  maskByte [lockoutReason a, a.siteLost, a.defaultProfile, a.directoryFault, a.lockoutRecordFault]

/-- A limited set: bit n − 1 for field n. -/
def limitedBytes (fields : List Nat) : List Byte :=
  [maskByte ([1, 2, 3, 4].map fun n => fields.contains n)]

/-! ## Bodies with absent fields (R167) -/

/-- A field of a body: always present, or optional with its width and, when present, its bytes. -/
inductive BodyField
  | always (bs : List Byte)
  | optional (width : Nat) (bs : Option (List Byte))
  deriving DecidableEq, Repr

/-- The bytes of a field; an absent one keeps its width, filled with zeros. -/
def fieldBytes (f : BodyField) : List Byte :=
  match f with
  | .always bs => bs
  | .optional width bs => bs.getD (List.replicate width 0)

/-- Whether each field that may be absent is present, in order. -/
def presence (fields : List BodyField) : List Bool :=
  fields.filterMap fun f =>
    match f with
    | .always _ => none
    | .optional _ bs => some bs.isSome

/-- The presence mask: as many bytes as the flags need, bit 0 of the first byte first. -/
def presenceMask (flags : List Bool) : List Byte :=
  (List.range ((flags.length + 7) / 8)).map fun k => maskByte ((flags.drop (8 * k)).take 8)

/-- A body from its fields: one presence mask before them where any may be absent. -/
def bodyBytes (fields : List BodyField) : List Byte :=
  presenceMask (presence fields) ++ (fields.map fieldBytes).flatten

/-- An optional field encoded from an optional value. -/
def optionalField {α : Type} (width : Nat) (enc : α → List Byte) (x : Option α) : BodyField :=
  .optional width (x.map enc)

/-! ## Time left, in ms rounded up, 0 once met (assumption 12) -/

/-- Milliseconds from `now` to an instant in µs. -/
def millisLeft (now ends : Nat) : Nat := (ends - now + 999) / 1000

/-! ## Record bodies -/

/-- The qualify-failure set of a record, if any. -/
def failuresOf (r : ChainRecord) : Option (List Check) :=
  match r.mode with
  | .qualify set => some set
  | _ => none

/-- The trip cause of a record, provisional or final, if any. -/
def causeOf (r : ChainRecord) : Option TripCause :=
  match r.mode with
  | .classify cause _ _ => some cause
  | .holdoff cause _ => some cause
  | _ => none

/-- The dwell of a record, if any. -/
def dwellHeld (r : ChainRecord) : Option Dwell :=
  match r.mode with
  | .holdoff _ d => some d
  | _ => none

/-- The held snapshot of a record, if any. -/
def snapshotOf (r : ChainRecord) : Option Snapshot :=
  match r.mode with
  | .classify _ x _ => some x
  | _ => none

/-- The window expiry of a record, if any. -/
def windowOf (r : ChainRecord) : Option Nat :=
  match r.mode with
  | .classify _ _ ends => some ends
  | _ => none

/-- The instant run-on remaining reaches 0, if it is present. -/
def runOnOf (r : ChainRecord) : Option Nat :=
  match r.mode with
  | .disabled ends => ends
  | _ => none

/-- The instant a dwell's time is met. -/
def dwellEnds (d : Dwell) : Nat := d.startedAt + d.lengths.time * 10000

/-- A trip list entry in a body: trip time, cause, weight (Table 6-4). -/
def entryBytes (e : TripEntry) : List Byte :=
  bytes32 e.tripTime.toNat ++ bytes8 (causeCode e.cause) ++ bytes8 (causeWeight e.cause)

/-- READ_CHAIN's body (Table 10-2). -/
def chainBody (s : State) (c : ChainNo) : List Byte :=
  let r := recordOf s c
  let group := s.intake.chainGroup.get c
  bodyBytes
    [ .always (bytes8 (stateCode (modeState r.mode))),
      .always (bytes16 r.setPoint), .always (bytes16 r.cap), .always (bytes16 r.mismatch), .always (bytes16 r.thermal),
      .always (bytes16 r.site), .always (bytes16 r.blind), .always (bytes16 r.permitted), .always (bytes16 r.applied),
      .always (bytes8 (limiterCode r.limiter)),
      optionalField 2 (fun x : ChainReadings => bytes16 x.forward) r.readings,
      optionalField 2 (fun x : ChainReadings => bytes16 x.reflected) r.readings,
      optionalField 2 bytes16 r.ratio,
      optionalField 2 (fun x : ChainReadings => bytesSigned16 x.tout) r.readings,
      .always (bytes8 (bandCode r.band)), .always (bytes8 (freshnessCode r.freshness)), .always (bytes16 r.flowRate),
      optionalField 2 checksBytes (failuresOf r),
      optionalField 1 (fun k => bytes8 (causeCode k)) (causeOf r),
      optionalField 4 (fun d => bytes32 (millisLeft s.time (dwellEnds d))) (dwellHeld r),
      optionalField 1 (fun d : Dwell => bytes8 d.ticksLeft) (dwellHeld r),
      .always (bytes8 r.tripList.length), .always (r.tripList.map entryBytes).flatten,
      .always (bytesFlag r.latch),
      optionalField 4 (fun ends => bytes32 (millisLeft s.time ends)) (runOnOf r),
      .always (bytesFlag (s.lines.cooling.get c)),
      optionalField 1 (fun x : Snapshot => bytes8 (inputCode x.firstInput)) (snapshotOf r),
      optionalField 1 (fun k : Fin 8 => bytes8 k.val) ((snapshotOf r).bind (·.arcLine)),
      optionalField 1 (fun x : LastFrame ChainReadings => limitedBytes x.limited) group.last,
      .always (bytes16 (s.levelBus.lastSent.get c)),
      optionalField 2 bytes16 (s.levelBus.pending.get c),
      optionalField 2 (fun ends => bytes16 (ends - s.time)) (windowOf r) ]

/-- The statistics record: five accepted counters, five discard counters (Table 2-3). -/
def statisticsBytes (x : IntakeStatistics) : List Byte :=
  (x.acceptedChain.toList.map bytes16).flatten ++ bytes16 x.acceptedSite ++ bytes16 x.check ++ bytes16 x.group
    ++ bytes16 x.short ++ bytes16 x.fault ++ bytes16 x.duplicate

/-- The twelve line levels as a two-byte mask: bits 0 to 7 the arc lines, bits 8 to 11 the surge lines (R167). -/
def lineLevelBytes (p : Pins) : List Byte := [maskByte p.surges.toList, maskByte p.arcs.toList]

/-- The twelve pulse counts in line order (R90). -/
def pulseCountBytes (x : FastMute) : List Byte :=
  (x.arcs.toList.map fun l => bytes16 l.count).flatten ++ (x.surges.toList.map fun l => bytes16 l.count).flatten

/-- The alarm reason set with the chains of CHAIN_LOCKOUT. -/
def alarmBytes (a : AlarmReasons) : List Byte := [alarmByte a, maskByte a.lockoutChains.toList]

/-- READ_SITE's body (R87, Table 10-2): the rows of Table 4-1, the interlock filter's raw level and time among them while
the filter holds them, their widths and the time's unit being the model's (assumption 10). -/
def siteBody (s : State) : List Byte :=
  let r := s.site.record
  bodyBytes
    [ optionalField 2 (fun x : SiteReadings => bytes16 x.forward) r.readings,
      optionalField 2 (fun x : SiteReadings => bytes16 x.reflected) r.readings,
      optionalField 2 (fun x : SiteReadings => bytesSigned16 x.trej) r.readings,
      optionalField 2 (fun x : SiteReadings => bytes16 x.pgas) r.readings,
      optionalField 2 bytes16 r.ratio,
      .always (bytes16 r.feederLine), .always (bytes16 r.rejectLine), .always (bytesFlag r.lowPressure),
      .always (bytes16 r.pressureCap), .always (bytes16 r.evaluated), .always (bytes16 r.ceiling),
      .always (bytesFlag r.feederTrip), .always (bytesFlag r.rejectTrip), .always (bytes8 (freshnessCode r.freshness)),
      .always (bytes8 (interlockCode r.interlock)),
      optionalField 1 (fun _ => bytesFlag s.pins.ilk) r.filterSince,
      optionalField 4 (fun since => bytes32 ((s.time - since) / 1000)) r.filterSince,
      optionalField 1 (fun x : LastFrame SiteReadings => limitedBytes x.limited) s.intake.siteGroup.last,
      .always (statisticsBytes s.intake.statistics), .always (alarmBytes s.alarms), .always (lineLevelBytes s.pins),
      .always (pulseCountBytes s.fastMute) ]

/-- τ = floor(Tnu / 8) (R128). -/
def tolerance (tnu : Nat) : Nat := tnu / 8

/-- W = floor(Pe / 16) (R130). -/
def halfWindow (pe : Nat) : Nat := pe / 16

/-- READ_TIMING's body (R138, Table 7-1, Table 10-2). -/
def timingBody (s : State) : List Byte :=
  let t := s.tracker
  let tnu := periodUnits t.tn
  let previous := match t.mode with | .search m _ _ => m | .locked _ _ => none
  let good := match t.mode with | .search _ g _ => some g | .locked _ _ => none
  let due := match t.mode with | .search _ _ d => some d | .locked _ _ => none
  let pe := match t.mode with | .search _ _ _ => none | .locked pe _ => some pe
  let misses := match t.mode with | .search _ _ _ => none | .locked _ k => some k
  bodyBytes
    [ .always (bytes8 (trackerCode (trackerStateOf t))), .always (bytes32 tnu), .always (bytes32 (tolerance tnu)),
      .always (bytes32 t.lastTick.toNat),
      optionalField 4 (fun x : Word32 => bytes32 x.toNat) previous,
      optionalField 1 bytes8 good,
      optionalField 4 (fun x : Word32 => bytes32 x.toNat) due,
      optionalField 4 bytes32 pe,
      optionalField 4 (fun x => bytes32 (halfWindow x)) pe,
      optionalField 1 bytes8 misses,
      .always (bytes16 t.markers), .always (bytes16 t.strays), .always (bytes16 t.virtuals),
      .always (bytes16 t.fallbacks), .always (bytes16 t.locks), .always (bytes16 t.losses),
      .always (bytes16 t.tn) ]

/-- READ_TRIPS's body: count, weight sum, and each entry with its age (R113, Table 10-2). -/
def tripsBody (s : State) (c : ChainNo) : List Byte :=
  let l := (recordOf s c).tripList
  bytes8 l.length ++ bytes8 (weightSum l)
    ++ (l.map fun e => bytes32 e.tripTime.toNat ++ bytes32 (entryAge (siteClock s) e) ++ bytes8 (causeCode e.cause)
        ++ bytes8 (causeWeight e.cause)).flatten

/-- A capture record in a body: the rows of Table 6-5. R106 says that weight and class are reported in the record, and
Table 6-5 has no row for them; the cause alone is sent, which gives both by Table 6-1 (assumption 24). -/
def captureBytes (q : QueuedRecord) : List Byte :=
  let x := q.record
  let readings := x.chainPart.bind fun y => y.readings
  bodyBytes
    [ .always (bytes16 q.sequence.toNat), .always (bytesFlag q.gap),
      optionalField 1 (fun y : ChainCapture => bytes8 y.chain.val) x.chainPart,
      .always (bytes8 (causeCode x.cause)),
      optionalField 1 (fun i => bytes8 (inputCode i)) x.firstInput,
      optionalField 1 (fun k : Fin 8 => bytes8 k.val) x.arcLine,
      .always (bytes32 x.tripTime.toNat),
      optionalField 1 (fun y : ChainCapture => bytes8 (runCode y.stateAtTrip)) x.chainPart,
      optionalField 2 (fun y : ChainCapture => bytes16 y.applied) x.chainPart,
      optionalField 2 (fun y : ChainCapture => bytes16 y.permitted) x.chainPart,
      optionalField 1 (fun y : ChainCapture => bytes8 (limiterCode y.limiter)) x.chainPart,
      optionalField 2 (fun y : ChainReadings => bytes16 y.forward) readings,
      optionalField 2 (fun y : ChainReadings => bytes16 y.reflected) readings,
      optionalField 2 bytes16 (x.chainPart.bind fun y => y.ratio),
      optionalField 2 (fun y : ChainReadings => bytesSigned16 y.tout) readings,
      optionalField 1 (fun y : ChainCapture => bytes8 (bandCode y.band)) x.chainPart,
      optionalField 2 (fun y : ChainCapture => bytes16 y.flowRate) x.chainPart,
      .always (bytes16 x.siteCeiling), .always (bytes8 (trackerCode x.tracker)),
      optionalField 1 (fun y : ChainCapture => bytes8 y.weightSum) x.chainPart ]

/-- READ_CAPTURE's body: 0x00 for the empty indication, else 0x01 and the oldest record (R123, R167). -/
def captureBody (q : CaptureQueue) : List Byte :=
  match q.records with
  | [] => [0x00]
  | x :: _ => 0x01 :: captureBytes x

/-- RELEASE_CAPTURE's body: the empty indication, or the new oldest sequence number (R124). -/
def releaseBody (records : List QueuedRecord) : List Byte :=
  match records with
  | [] => [0x00]
  | x :: _ => 0x01 :: bytes16 x.sequence.toNat

/-- A designation's byte. -/
def designationBytes (d : Designation) : List Byte := bytes8 (designationCode d)

/-- The name and revision of the image a slot holds. -/
def slotProfile (cell : NvCell) : Option Profile :=
  match cell with
  | .bytes img => some (profileOfImage img)
  | .torn => none

/-- A slot in READ_STORE's body: its state, the name and revision of a VALID one, the finding of an INVALID one. -/
def slotFields (st : SlotState) (cell : NvCell) : List BodyField :=
  let shown := match st with
    | .valid => slotProfile cell
    | _ => none
  let finding := match st with
    | .invalid f => some f
    | _ => none
  [ .always (bytes8 (slotStateCode st)),
    optionalField 12 (fun p : Profile => p.name) shown,
    optionalField 2 (fun p : Profile => bytes16 p.revision) shown,
    optionalField 2 findingBytes finding ]

/-- What kind of write is in progress. -/
def lockoutInProgress (n : NvController) : Bool :=
  match n.inProgress with
  | some ⟨.lockout _, _⟩ => true
  | _ => false

/-- A directory write is in progress. -/
def directoryInProgress (n : NvController) : Bool :=
  match n.inProgress with
  | some ⟨.directory _, _⟩ => true
  | _ => false

/-- A slot write is in progress. -/
def slotInProgress (n : NvController) : Bool :=
  match n.inProgress with
  | some ⟨.slot _, _⟩ => true
  | _ => false

/-- The load's target, while it has one. -/
def loadTarget (l : Load) : Option (Fin 3) :=
  match l with
  | .closed => none
  | .opened k _ _ _ => some k
  | .committing k => some k

/-- The load's expected index, while it is OPEN. -/
def loadExpected (l : Load) : Option Nat :=
  match l with
  | .opened _ n _ _ => some n
  | _ => none

/-- READ_STORE's body (R155, R160, Table 10-2). -/
def storeBody (s : State) : List Byte :=
  bodyBytes
    (slotFields (s.store.slots.get 0) (s.array.slots.get 0)
      ++ slotFields (s.store.slots.get 1) (s.array.slots.get 1)
      ++ slotFields (s.store.slots.get 2) (s.array.slots.get 2)
      ++ [ .always (bytes8 (loadCode s.store.load)),
           optionalField 1 (fun k : Fin 3 => bytes8 k.val) (loadTarget s.store.load),
           optionalField 1 bytes8 (loadExpected s.store.load),
           .always (designationBytes s.store.directory),
           .always (bytesFlag s.nv.lockoutPending), .always (bytesFlag (lockoutInProgress s.nv)),
           .always (bytesFlag s.nv.directoryPending), .always (bytesFlag (directoryInProgress s.nv)),
           .always (bytesFlag s.nv.slotPending.isSome), .always (bytesFlag (slotInProgress s.nv)),
           .always (bytesFlag s.alarms.directoryFault), .always (bytesFlag s.alarms.lockoutRecordFault),
           .always [maskByte (latchesOf s).toList] ])

/-- IDENTIFY's body (R167, R154). -/
def identifyBody (s : State) : List Byte :=
  [0x04, 0x40, 0x01] ++ s.store.active.name ++ bytes16 s.store.active.revision ++ designationBytes s.store.source
    ++ bytesFlag (decide (s.store.source = .builtIn))

/-- The body that names a profile by designation, name and revision. -/
def namedProfile (d : Designation) (p : Profile) : List Byte := designationBytes d ++ p.name ++ bytes16 p.revision

/-- A body that names a chain and its state. -/
def chainStateBody (s : State) (c : ChainNo) : List Byte :=
  bytes8 c.val ++ bytes8 (stateCode (modeState (recordOf s c).mode))

/-! ## Notices (R170) -/

/-- CHAIN_NOTICE. -/
def chainNotice (s : State) (c : ChainNo) : Message :=
  let r := recordOf s c
  { kind := 0x70, tag := 0
    body := bodyBytes
      [ .always (bytes8 c.val), .always (bytes8 (stateCode (modeState r.mode))), .always (bytes8 (limiterCode r.limiter)),
        .always (bytes16 r.permitted), .always (bytes16 r.applied),
        optionalField 1 (fun k => bytes8 (causeCode k)) (causeOf r) ] }

/-- SITE_NOTICE. -/
def siteNotice (s : State) : Message :=
  let r := s.site.record
  { kind := 0x71, tag := 0
    body := bytes8 (freshnessCode r.freshness) ++ bytes8 (interlockCode r.interlock) ++ bytesFlag r.feederTrip
      ++ bytesFlag r.rejectTrip ++ alarmBytes s.alarms }

/-- CAPTURE_NOTICE. Table 10-4 names no width for its number of records; one byte is the model's (assumption 10). -/
def captureNotice (s : State) : Message :=
  let l := s.capture.records
  { kind := 0x72, tag := 0
    body := bodyBytes
      [ .always (bytes8 l.length),
        optionalField 2 (fun x : QueuedRecord => bytes16 x.sequence.toNat) l.head?,
        optionalField 2 (fun x : QueuedRecord => bytes16 x.sequence.toNat) l.getLast?,
        optionalField 1 (fun x : QueuedRecord => bytesFlag x.gap) l.getLast? ] }

/-! ## Refusals (Table 10-3) -/

/-- The refusal reasons. STATE is given by no request (R166). -/
inductive Refused
  | unknownKind | badLength | designation | lockedOut | busy | sequence | notFound | noLoad | checkFailed | invalidField
  deriving DecidableEq, Repr

/-- A refusal reason's code. -/
def refusedCode (x : Refused) : Byte :=
  match x with
  | .unknownKind => 0x01
  | .badLength => 0x02
  | .designation => 0x03
  | .lockedOut => 0x05
  | .busy => 0x06
  | .sequence => 0x07
  | .notFound => 0x08
  | .noLoad => 0x09
  | .checkFailed => 0x0A
  | .invalidField => 0x0B

/-- A refusal of a request: its kind and the reason, with the reason's detail (Table 10-2). -/
def refusal (kind tag : Byte) (why : Refused) (detail : List Byte) : Message :=
  { kind := 0xFE, tag := tag, body := kind :: refusedCode why :: detail }

/-- An acceptance: the request's kind plus 0x80, its tag, and a body. -/
def acceptance (kind tag : Byte) (body : List Byte) : Message := { kind := kind + 0x80, tag := tag, body := body }

/-! ## Frames and the transmit line (R164, R165, R171) -/

/-- The line's rate in bit/s (R164). -/
def lineRate (l : ControlLink) : Nat :=
  match l.bsel1, l.bsel0 with
  | false, false => 19200
  | false, true => 57600
  | true, false => 115200
  | true, true => 230400

/-- A message that started at `started` has been sent to its last byte: ten bits a character (R164). -/
def sentBy (l : ControlLink) (t : Transmission) (now : Nat) : Bool :=
  decide ((t.message.body.length + 6) * 10 * 1000000 ≤ (now - t.started) * lineRate l)

/-- The bits of a message on CTXD, each byte a character (R164). -/
def ctxdBits (m : Message) : List Bool := (frameBytes m).flatMap characterBits

/-- The level of CTXD at the state's time: that of the bit being sent, and the stop level while nothing is (R164). -/
def ctxdLevel (s : State) : Bool :=
  match s.link.transmitting with
  | some t => (ctxdBits t.message).getD ((s.time - t.started) * lineRate s.link / 1000000) true
  | none => true

/-- The first chain, in chain order, whose notice is pending, and since when. -/
def pendingChain (n : NoticeFlags) : Option (ChainNo × Nat) :=
  [0, 1, 2, 3].findSome? fun c => (n.chains.get c).map fun since => (c, since)

/-- A message starts on CTXD. -/
def sendMessage (item : TxItem) (m : Message) (s : State) : State :=
  { s with link := { s.link with transmitting := some ⟨item, m, s.time⟩ } }

/-- The notice that is next in the source order starts, with its source's state as it stands, and its flag is removed
(R170, R171). -/
def startNotice (s : State) : State :=
  let n := s.link.noticePending
  match pendingChain n with
  | some (c, since) =>
    sendMessage (.notice (.chain c) since) (chainNotice s c)
      { s with link := { s.link with noticePending := { n with chains := n.chains.set c none } } }
  | none =>
    match n.site with
    | some since =>
      sendMessage (.notice .site since) (siteNotice s)
        { s with link := { s.link with noticePending := { n with site := none } } }
    | none =>
      match n.capture with
      | some since =>
        sendMessage (.notice .capture since) (captureNotice s)
          { s with link := { s.link with noticePending := { n with capture := none } } }
      | none => s

/-- A waiting reply starts: it leaves the reply buffer for the line. -/
def startReply (s : State) : State :=
  match s.link.reply with
  | some m => sendMessage .reply m { s with link := { s.link with reply := none } }
  | none => startNotice s

/-- The transmit line, when free, starts the message its arbiter chooses: the overlap slot's BUSY refusal, the reply to
the request in hand, a pending notice (R171). -/
def startTransmit (s : State) : State :=
  if s.phase = .running ∧ s.link.transmitting = none then
    match s.link.overlap with
    | some o => if o.ready then sendMessage .busy (refusal o.kind o.tag .busy []) s else startReply s
    | none => startReply s
  else s

/-- What follows every event: the output lines take their values, and a free transmit line starts what waits. -/
def finish (s : State) : State := startTransmit (driveLines s)

end Sys2Proof.Machine
end

