-- ==== Sys2Proof/Machine/ChainEvents.lean ====
section
/-! DEFINITION. What a Chain Supervisor does with each event that reaches it (Table 1-1), but for the requests of the
Control Link: one operation an event, taken whole (R1). An event is taken from the front of its source's queue in the
chain's inbox; where none waits, nothing but the time changes (assumption 3). -/

namespace Sys2Proof.Machine

/-! ## Flow gate results (R42) -/

/-- A chain takes a flow gate result: the rate is copied, and a running chain at the dwell trips FLOW_LOSS. -/
def takeFlowResult (c : ChainNo) (x : FlowResult) (s : State) : State :=
  let old := recordOf s c
  let r := { old with flowRate := x.rate }
  match runState old.mode with
  | some run =>
    if x.atDwell then slowTrip c .flowLoss (siteClock s) run old.applied r s else commitChain c r s
  | none => commitChain c r s

/-- The front flow gate result taken. -/
def flowResultEvent (c : ChainNo) (s : State) : State :=
  match (inboxOf s c).flow with
  | [] => s
  | x :: rest => finish (takeFlowResult c x (setInbox c { inboxOf s c with flow := rest } s))

/-- FLOW_GATE_RESULT (R42). -/
def execFlowGateResult (dt : Nat) (c : ChainNo) (s : State) : Host.Outcome State Fault Refusal :=
  .next (whileRunning (flowResultEvent c) (elapse dt s))

/-! ## Evaluations (R11, R60 to R63) -/

/-- The release of a chain in QUALIFY: A is the smaller of the ramp start level and P, and the chain enters ACTIVE if
that is P, RAMP otherwise (R11). -/
def releaseChain (p : Profile) (r : ChainRecord) : ChainRecord :=
  let a := min p.rampStart r.permitted
  { r with applied := a, mode := if a = r.permitted then .active else .ramp }

/-- Step 3 of an evaluation in QUALIFY: every check is tested; the chain is released or its set replaced (R11). -/
def testQualify (s : State) (c : ChainNo) (r : ChainRecord) : ChainRecord :=
  match failingChecks s c r with
  | [] => releaseChain (profileOf s c) r
  | k :: ks => { r with mode := .qualify (k :: ks) }

/-- A chain takes an evaluation (R60). -/
def takeEvaluation (c : ChainNo) (x : ChainReadings) (returned : Bool) (s : State) : State :=
  let p := profileOf s c
  let old := recordOf s c
  let r := evaluateRecord p x returned old
  match old.mode with
  | .ramp =>
    match slowTripFound p x r.ratio with
    | some cause => slowTrip c cause (siteClock s) .ramp old.applied r s
    | none => commitChain c (followComposition r) s
  | .active =>
    match slowTripFound p x r.ratio with
    | some cause => slowTrip c cause (siteClock s) .active old.applied r s
    | none => commitChain c (followComposition r) s
  | .qualify _ => commitChain c (testQualify s c r) s
  | _ => commitChain c r s

/-- The front event of the Intake taken, where it is an evaluation. -/
def evaluationEvent (c : ChainNo) (s : State) : State :=
  match (inboxOf s c).intake with
  | .evaluation x returned :: rest =>
    finish (takeEvaluation c x returned (setInbox c { inboxOf s c with intake := rest } s))
  | _ => s

/-- CHAIN_EVALUATION (R60). -/
def execChainEvaluation (dt : Nat) (c : ChainNo) (s : State) : Host.Outcome State Fault Refusal :=
  .next (whileRunning (evaluationEvent c) (elapse dt s))

/-! ## Freshness changes (R12, R36, R37, R65) -/

/-- A chain takes its group's change to STALE: B, the recomposition, and CHAIN_FRESH in QUALIFY. -/
def takeStale (c : ChainNo) (s : State) : State :=
  let r := { recordOf s c with freshness := .stale, blind := (profileOf s c).chainBlind }
  commitChain c (addFailure .chainFresh (recompose r)) s

/-- A chain takes its group's change to LOST: a running chain trips MEAS_LOST at the lost deadline's time (R108). -/
def takeLost (c : ChainNo) (due : Word32) (s : State) : State :=
  let old := recordOf s c
  let r := { old with freshness := .lost }
  match runState old.mode with
  | some run => slowTrip c .measLost due run old.applied (compose r) s
  | none => commitChain c (addFailure .chainFresh (recompose r)) s

/-- The front event of the Intake taken, where it is a freshness change. -/
def freshnessEvent (c : ChainNo) (s : State) : State :=
  match (inboxOf s c).intake with
  | .wentStale :: rest => finish (takeStale c (setInbox c { inboxOf s c with intake := rest } s))
  | .wentLost due :: rest => finish (takeLost c due (setInbox c { inboxOf s c with intake := rest } s))
  | _ => s

/-- CHAIN_FRESHNESS_CHANGE (R65). -/
def execChainFreshnessChange (dt : Nat) (c : ChainNo) (s : State) : Host.Outcome State Fault Refusal :=
  .next (whileRunning (freshnessEvent c) (elapse dt s))

/-! ## What the Site Monitor delivers -/

/-- A chain takes a site ceiling change: X is set and P recomposed, in every state (R66). -/
def takeCeiling (c : ChainNo) (x : Nat) (s : State) : State :=
  commitChain c (recompose { recordOf s c with site := x }) s

/-- A site ceiling change taken from the front delivery, where it holds one. -/
def ceilingEvent (c : ChainNo) (s : State) : State :=
  match (inboxOf s c).site with
  | ⟨some x, trip, loss⟩ :: rest =>
    finish (takeCeiling c x (setInbox c { inboxOf s c with site := afterTaking ⟨none, trip, loss⟩ rest } s))
  | _ => s

/-- SITE_CEILING_CHANGE (R66). -/
def execSiteCeilingChange (dt : Nat) (c : ChainNo) (s : State) : Host.Outcome State Fault Refusal :=
  .next (whileRunning (ceilingEvent c) (elapse dt s))

/-- The trip cause of a site trip event. -/
def siteTripCause (x : SiteTrip) : TripCause :=
  match x with
  | .feederMismatch => .feederMismatch
  | .rejectOvertemp => .rejectOvertemp
  | .siteMeasLost => .siteMeasLost

/-- The check a site trip event adds in QUALIFY (R12). -/
def siteTripCheck (x : SiteTrip) : Check :=
  match x with
  | .feederMismatch => .siteOk
  | .rejectOvertemp => .siteOk
  | .siteMeasLost => .siteFresh

/-- A chain takes a site trip event: a slow trip in RAMP or ACTIVE, a name in the set in QUALIFY, nothing elsewhere
(R78, R81). -/
def takeSiteTrip (c : ChainNo) (x : SiteTrip) (s : State) : State :=
  let old := recordOf s c
  match runState old.mode with
  | some run => slowTrip c (siteTripCause x) (siteClock s) run old.applied old s
  | none => commitChain c (addFailure (siteTripCheck x) old) s

/-- A site trip event taken from the front delivery, where it holds one. -/
def siteTripTaken (c : ChainNo) (s : State) : State :=
  match (inboxOf s c).site with
  | ⟨ceiling, some x, loss⟩ :: rest =>
    finish (takeSiteTrip c x (setInbox c { inboxOf s c with site := afterTaking ⟨ceiling, none, loss⟩ rest } s))
  | _ => s

/-- SITE_TRIP_EVENT (R78). -/
def execSiteTripEvent (dt : Nat) (c : ChainNo) (s : State) : Host.Outcome State Fault Refusal :=
  .next (whileRunning (siteTripTaken c) (elapse dt s))

/-- A chain takes a site freshness loss: SITE_FRESH joins the set of a chain in QUALIFY (R12, R80). -/
def takeSiteLoss (c : ChainNo) (s : State) : State := commitChain c (addFailure .siteFresh (recordOf s c)) s

/-- A site freshness loss taken from the front delivery, where it holds one. -/
def siteLossTaken (c : ChainNo) (s : State) : State :=
  match (inboxOf s c).site with
  | ⟨ceiling, trip, true⟩ :: rest =>
    finish (takeSiteLoss c (setInbox c { inboxOf s c with site := afterTaking ⟨ceiling, trip, false⟩ rest } s))
  | _ => s

/-- SITE_FRESHNESS_LOSS (R12). -/
def execSiteFreshnessLoss (dt : Nat) (c : ChainNo) (s : State) : Host.Outcome State Fault Refusal :=
  .next (whileRunning (siteLossTaken c) (elapse dt s))

/-! ## The interlock at a chain (R23, R24) -/

/-- A chain takes an interlock opening: a running chain enters QUALIFY with INTERLOCK in its set, a chain in QUALIFY
adds it, any other chain is unchanged (R23). -/
def takeOpening (c : ChainNo) (s : State) : State :=
  let old := recordOf s c
  match runState old.mode with
  | some _ => commitChain c (addFailure .interlock (enterQualify s c old)) s
  | none => commitChain c (addFailure .interlock old) s

/-- The front interlock change taken, where it is an opening. -/
def openingEvent (c : ChainNo) (s : State) : State :=
  match (inboxOf s c).interlock with
  | .opening :: rest => finish (takeOpening c (setInbox c { inboxOf s c with interlock := rest } s))
  | _ => s

/-- CHAIN_INTERLOCK_OPENING (R23). -/
def execChainInterlockOpening (dt : Nat) (c : ChainNo) (s : State) : Host.Outcome State Fault Refusal :=
  .next (whileRunning (openingEvent c) (elapse dt s))

/-- The front interlock change taken, where it is a closing: it changes nothing of the chain (R24). -/
def closingEvent (c : ChainNo) (s : State) : State :=
  match (inboxOf s c).interlock with
  | .closing :: rest => setInbox c { inboxOf s c with interlock := rest } s
  | _ => s

/-- CHAIN_INTERLOCK_CLOSING (R24). -/
def execChainInterlockClosing (dt : Nat) (c : ChainNo) (s : State) : Host.Outcome State Fault Refusal :=
  .next (whileRunning (closingEvent c) (elapse dt s))

/-! ## Fast pulses (R93 to R101) -/

/-- The trip snapshot a chain holds: the chain as it stood when it took the first pulse (R94). -/
def takeSnapshot (run : RunState) (x : PulseStamp) (input : FirstInput) (line : Option (Fin 8)) (r : ChainRecord) :
    Snapshot :=
  { tripTime := x.clock, stateAtTrip := run, applied := r.applied, permitted := r.permitted, limiter := r.limiter,
    readings := r.readings, ratio := r.ratio, band := r.band, flowRate := r.flowRate, siteCeiling := r.site,
    tracker := x.tracker, firstInput := input, arcLine := line }

/-- Entry to CLASSIFY: A is 0, the snapshot is held, the provisional cause set and the coincidence window opened at the
qualification instant (R93, R95). -/
def enterClassify (p : Profile) (cause : TripCause) (x : PulseStamp) (snap : Snapshot) (r : ChainRecord) : ChainRecord :=
  { r with mode := .classify cause snap (x.instant + p.coincidence), applied := 0 }

/-- What an arc pulse makes of a classification: SURGE becomes ARC_CONFIRMED and records the line (R96). -/
def arcInClassify (line : Fin 8) (cause : TripCause) (snap : Snapshot) : TripCause × Snapshot :=
  if cause = .surge then (.arcConfirmed, { snap with arcLine := some line }) else (cause, snap)

/-- What a surge makes of a provisional cause: ARC_FLASH becomes ARC_CONFIRMED (R97). -/
def surgeInClassify (cause : TripCause) : TripCause := if cause = .arcFlash then .arcConfirmed else cause

/-- A dwell restarted from zero in time and ticks, its lengths kept (R100). -/
def restartDwell (now : Nat) (d : Dwell) : Dwell := { d with startedAt := now, ticksLeft := d.lengths.ticks }

/-- A chain's record after a qualified arc pulse (R93, R96, R100, R101). -/
def arcRecord (now : Nat) (p : Profile) (x : ArcPulse) (r : ChainRecord) : ChainRecord :=
  match r.mode with
  | .ramp => enterClassify p .arcFlash x.stamp (takeSnapshot .ramp x.stamp .arc (some x.line) r) r
  | .active => enterClassify p .arcFlash x.stamp (takeSnapshot .active x.stamp .arc (some x.line) r) r
  | .classify cause snap ends =>
    { r with mode := .classify (arcInClassify x.line cause snap).1 (arcInClassify x.line cause snap).2 ends }
  | .holdoff cause d => { r with mode := .holdoff cause (restartDwell now d) }
  | _ => r

/-- A chain's record after a qualified surge (R93, R97, R101). -/
def surgeRecord (p : Profile) (x : PulseStamp) (r : ChainRecord) : ChainRecord :=
  match r.mode with
  | .ramp => enterClassify p .surge x (takeSnapshot .ramp x .surge none r) r
  | .active => enterClassify p .surge x (takeSnapshot .active x .surge none r) r
  | .classify cause snap ends => { r with mode := .classify (surgeInClassify cause) snap ends }
  | _ => r

/-- The front arc pulse taken. -/
def arcEvent (c : ChainNo) (s : State) : State :=
  match (inboxOf s c).arcs with
  | [] => s
  | x :: rest =>
    finish (commitChain c (arcRecord s.time (profileOf s c) x (recordOf s c))
      (setInbox c { inboxOf s c with arcs := rest } s))

/-- QUALIFIED_ARC_PULSE (R93). -/
def execQualifiedArcPulse (dt : Nat) (c : ChainNo) (s : State) : Host.Outcome State Fault Refusal :=
  .next (whileRunning (arcEvent c) (elapse dt s))

/-- The front surge taken. -/
def surgeEvent (c : ChainNo) (s : State) : State :=
  match (inboxOf s c).surges with
  | [] => s
  | x :: rest =>
    finish (commitChain c (surgeRecord (profileOf s c) x (recordOf s c))
      (setInbox c { inboxOf s c with surges := rest } s))

/-- QUALIFIED_SURGE (R97). -/
def execQualifiedSurge (dt : Nat) (c : ChainNo) (s : State) : Host.Outcome State Fault Refusal :=
  .next (whileRunning (surgeEvent c) (elapse dt s))

/-! ## A chain's own timers -/

/-- The coincidence window expires: the provisional cause is final and the trip entry is made (R99). -/
def expireWindow (c : ChainNo) (s : State) : State :=
  let r := recordOf s c
  match r.mode with
  | .classify cause snap ends =>
    if ends ≤ s.time then
      let trips := fastTripList cause snap r
      finish (commitChain c (enterHoldoff s.time (profileOf s c) cause { r with tripList := trips })
        (handRecord (chainSource c) (fastCapture c cause snap trips) s))
    else s
  | _ => s

/-- WINDOW_EXPIRY (R99). -/
def execWindowExpiry (dt : Nat) (c : ChainNo) (s : State) : Host.Outcome State Fault Refusal :=
  .next (whileRunning (expireWindow c) (elapse dt s))

/-- The dwell time is met with the tick count already met: the lockout decision is made (R110, R111). -/
def endDwell (c : ChainNo) (s : State) : State :=
  let r := recordOf s c
  match r.mode with
  | .holdoff _ d =>
    if dwellTimeMet s.time d ∧ d.ticksLeft = 0 then finish (commitChain c (decideLockout s c r) s) else s
  | _ => s

/-- DWELL_END (R111). -/
def execDwellEnd (dt : Nat) (c : ChainNo) (s : State) : Host.Outcome State Fault Refusal :=
  .next (whileRunning (endDwell c) (elapse dt s))

/-- The entries whose age has reached the trip window leave the list; nothing else changes (R115). -/
def expireTrips (c : ChainNo) (s : State) : State :=
  let r := recordOf s c
  setRecord c { r with tripList := ageList (profileOf s c) (siteClock s) r.tripList } s

/-- TRIP_LIST_ENTRY_EXPIRY (R115). -/
def execTripListEntryExpiry (dt : Nat) (c : ChainNo) (s : State) : Host.Outcome State Fault Refusal :=
  .next (whileRunning (expireTrips c) (elapse dt s))

/-- The run-on timer reaches 0: run-on remaining is removed (R8). -/
def expireRunOn (c : ChainNo) (s : State) : State :=
  let r := recordOf s c
  match r.mode with
  | .disabled (some ends) =>
    if ends ≤ s.time then finish (setRecord c { r with mode := .disabled none } s) else s
  | _ => s

/-- RUN_ON_EXPIRY (R8). -/
def execRunOnExpiry (dt : Nat) (c : ChainNo) (s : State) : Host.Outcome State Fault Refusal :=
  .next (whileRunning (expireRunOn c) (elapse dt s))

/-! ## Frame ticks (R110, R139) -/

/-- A raised by a step toward P: min(U, P − A) (R139). -/
def raiseApplied (step : Nat) (r : ChainRecord) : Nat := r.applied + min step (r.permitted - r.applied)

/-- A chain's record after a frame tick (R135, R139, R14, R110). -/
def tickRecord (s : State) (c : ChainNo) (r : ChainRecord) : ChainRecord :=
  let p := profileOf s c
  match r.mode with
  | .ramp =>
    if r.applied < r.permitted then
      let a := raiseApplied p.rampStep r
      { r with applied := a, mode := if a = r.permitted then .active else .ramp }
    else r
  | .active => if r.applied < r.permitted then { r with applied := raiseApplied p.recoverStep r } else r
  | .holdoff cause d =>
    if d.ticksLeft = 0 then r
    else
      let d1 := { d with ticksLeft := d.ticksLeft - 1 }
      if d1.ticksLeft = 0 ∧ dwellTimeMet s.time d1 = true then
        decideLockout s c { r with mode := .holdoff cause d1 }
      else { r with mode := .holdoff cause d1 }
  | _ => r

/-- A frame tick taken. -/
def tickEvent (c : ChainNo) (s : State) : State :=
  match (inboxOf s c).ticks with
  | 0 => s
  | n + 1 =>
    finish (commitChain c (tickRecord s c (recordOf s c)) (setInbox c { inboxOf s c with ticks := n } s))

/-- CHAIN_FRAME_TICK (R139). -/
def execChainFrameTick (dt : Nat) (c : ChainNo) (s : State) : Host.Outcome State Fault Refusal :=
  .next (whileRunning (tickEvent c) (elapse dt s))

/-! ## Profile activation at a chain (R67, R115) -/

/-- A chain takes a profile activation: its profile, the components formed again, the recomposition, and the trip list
aged under the new window. -/
def takeActivation (c : ChainNo) (p : Profile) (s : State) : State :=
  let r := activateRecord p c (recordOf s c)
  let r1 := { r with tripList := ageList p (siteClock s) r.tripList }
  commitChain c (recompose r1) (setChain c { chainOfState s c with profile := p } s)

/-- The front activation taken. -/
def chainActivationEvent (c : ChainNo) (s : State) : State :=
  match (inboxOf s c).activations with
  | [] => s
  | p :: rest => finish (takeActivation c p (setInbox c { inboxOf s c with activations := rest } s))

/-- CHAIN_PROFILE_ACTIVATION (R67). -/
def execChainProfileActivation (dt : Nat) (c : ChainNo) (s : State) : Host.Outcome State Fault Refusal :=
  .next (whileRunning (chainActivationEvent c) (elapse dt s))

end Sys2Proof.Machine
end

