-- ==== Sys2Proof/Machine/FastMuteEvents.lean ====
section
/-! DEFINITION. The Fast Mute Unit (chapter 5): line edges, qualification, forwarding and activation. -/

namespace Sys2Proof.Machine

/-! ## Pulse filters (R89; R127 for FMK) -/

/-- A filter after its line rises. -/
def filterRise (now : Nat) (f : PulseFilter) : PulseFilter :=
  match f with
  | .idle => .timing now
  | .timing t => .timing t
  | .held => .held
  | .rearm _ => .held

/-- A filter after its line falls. -/
def filterFall (now : Nat) (f : PulseFilter) : PulseFilter :=
  match f with
  | .idle => .idle
  | .timing _ => .idle
  | .held => .rearm now
  | .rearm t => .rearm t

/-- A filter after an edge. -/
def filterEdge (now : Nat) (high : Bool) (f : PulseFilter) : PulseFilter :=
  if high then filterRise now f else filterFall now f

/-- The instant at which a filter that is TIMING qualifies a pulse, if that has come. -/
def qualifiesAt (width now : Nat) (f : PulseFilter) : Option Nat :=
  match f with
  | .timing t => if t + width ≤ now then some (t + width) else none
  | _ => none

/-- A filter that is REARM has timed its low. -/
def rearmDue (width now : Nat) (f : PulseFilter) : Bool :=
  match f with
  | .rearm t => decide (t + width ≤ now)
  | _ => false

/-! ## The twelve lines -/

/-- The qualification and rearm time of an arc or surge line, in µs (R89). -/
def fastMicros : Nat := 2

/-- A line's state. -/
def fastLine (x : FastMute) (n : FastLineNo) : FastLine :=
  match n with
  | .arc k => x.arcs.get k
  | .surge c => x.surges.get c

/-- A line's state replaced. -/
def setFastLine (n : FastLineNo) (l : FastLine) (s : State) : State :=
  match n with
  | .arc k => { s with fastMute := { s.fastMute with arcs := s.fastMute.arcs.set k l } }
  | .surge c => { s with fastMute := { s.fastMute with surges := s.fastMute.surges.set c l } }

/-- A line's sampled level (R88). -/
def fastLevel (p : Pins) (n : FastLineNo) : Bool :=
  match n with
  | .arc k => p.arcs.get k
  | .surge c => p.surges.get c

/-- A line's raw level replaced. -/
def setFastLevel (n : FastLineNo) (high : Bool) (p : Pins) : Pins :=
  match n with
  | .arc k => { p with arcs := p.arcs.set k high }
  | .surge c => { p with surges := p.surges.set c high }

/-- An arc or surge line changes level: its sampled level follows and its filter moves (R88, R89). -/
def edgeFast (n : FastLineNo) (high : Bool) (s : State) : State :=
  if fastLevel s.pins n = high then s
  else
    whileRunning
      (fun t => setFastLine n
        { fastLine t.fastMute n with filter := filterEdge t.time high (fastLine t.fastMute n).filter } t)
      { s with pins := setFastLevel n high s.pins }

/-- FAST_LINE_EDGE (R88). -/
def execFastLineEdge (dt : Nat) (n : FastLineNo) (high : Bool) (s : State) : Host.Outcome State Fault Refusal :=
  .next (edgeFast n high (elapse dt s))

/-- The stamp of a pulse qualified at an instant. -/
def stampOf (s : State) (instant : Nat) : PulseStamp :=
  ⟨instant, BitVec.ofNat 32 (instant / 1000), trackerStateOf s.tracker⟩

/-- A qualified arc pulse forwarded to each chain of its line's set (R91). -/
def forwardArc (k : Fin 8) (stamp : PulseStamp) (s : State) : State :=
  { s with chains := Quad.ofFn fun c =>
      if inSet (s.fastMute.arcMap.get k) c then
        { chainOfState s c with inbox := { inboxOf s c with arcs := (inboxOf s c).arcs ++ [⟨k, stamp⟩] } }
      else chainOfState s c }

/-- A qualified surge forwarded to its own chain (R92). -/
def forwardSurge (c : ChainNo) (stamp : PulseStamp) (s : State) : State :=
  setInbox c { inboxOf s c with surges := (inboxOf s c).surges ++ [stamp] } s

/-- A qualified pulse forwarded. -/
def forwardPulse (n : FastLineNo) (stamp : PulseStamp) (s : State) : State :=
  match n with
  | .arc k => forwardArc k stamp s
  | .surge c => forwardSurge c stamp s

/-- A line that has stayed high for 2 µs qualifies a pulse, which is counted and forwarded (R89 to R92). -/
def qualifyFast (n : FastLineNo) (s : State) : State :=
  let l := fastLine s.fastMute n
  match qualifiesAt fastMicros s.time l.filter with
  | some instant =>
    if fastLevel s.pins n then
      forwardPulse n (stampOf s instant) (setFastLine n { filter := .held, count := bump l.count } s)
    else s
  | none => s

/-- FAST_LINE_QUALIFY (R89). -/
def execFastLineQualify (dt : Nat) (n : FastLineNo) (s : State) : Host.Outcome State Fault Refusal :=
  .next (whileRunning (qualifyFast n) (elapse dt s))

/-- A line that has stayed low for 2 µs after a pulse: its filter is IDLE again (R89). -/
def rearmFast (n : FastLineNo) (s : State) : State :=
  let l := fastLine s.fastMute n
  if rearmDue fastMicros s.time l.filter && !fastLevel s.pins n then setFastLine n { l with filter := .idle } s else s

/-- FAST_FILTER_REARM (R89). -/
def execFastFilterRearm (dt : Nat) (n : FastLineNo) (s : State) : Host.Outcome State Fault Refusal :=
  .next (whileRunning (rearmFast n) (elapse dt s))

/-- The Fast Mute Unit takes an activation: the new arc map for later pulses (R91, R159). -/
def fastMuteActivationEvent (s : State) : State :=
  match s.fastMute.activations with
  | [] => s
  | p :: rest => { s with fastMute := { s.fastMute with arcMap := p.arcMap, activations := rest } }

/-- FAST_MUTE_PROFILE_ACTIVATION (R91). -/
def execFastMuteProfileActivation (dt : Nat) (s : State) : Host.Outcome State Fault Refusal :=
  .next (whileRunning fastMuteActivationEvent (elapse dt s))

end Sys2Proof.Machine
end

