-- ==== Sys2Proof/Machine/Measurement.lean ====
section
/-! DEFINITION. The Measurement Intake (chapter 2): the sample-link receiver, frame checking and acceptance, group
freshness, and coolant flow. -/

namespace Sys2Proof.Machine

/-! ## The receiver and its counters -/

/-- The receiver set. -/
def setReceiver (x : SampleReceiver) (s : State) : State := { s with intake := { s.intake with receiver := x } }

/-- The receiver is IN FRAME. -/
def inSampleFrame (s : State) : Bool :=
  match s.intake.receiver with
  | .inFrame _ => true
  | .hunting _ => false

/-- The statistics record after a discard: the counter of its reason rises by one (R29, R35). -/
def countDiscardIn (k : DiscardReason) (x : IntakeStatistics) : IntakeStatistics :=
  match k with
  | .check => { x with check := bump x.check }
  | .group => { x with group := bump x.group }
  | .short => { x with short := bump x.short }
  | .fault => { x with fault := bump x.fault }
  | .duplicate => { x with duplicate := bump x.duplicate }

/-- A frame discarded: the only effect is its reason's counter (R29). -/
def countDiscard (k : DiscardReason) (s : State) : State :=
  { s with intake := { s.intake with statistics := countDiscardIn k s.intake.statistics } }

/-- The statistics record after an accepted frame of a group (R33, R35). -/
def countAccepted (g : GroupNo) (x : IntakeStatistics) : IntakeStatistics :=
  match g with
  | .chain c => { x with acceptedChain := x.acceptedChain.set c (bump (x.acceptedChain.get c)) }
  | .site => { x with acceptedSite := bump x.acceptedSite }

/-! ## Checking and acceptance (R29, R33) -/

/-- The last sequence number of a group, if it has one. -/
def lastSequence (s : State) (g : GroupNo) : Option Nat :=
  match g with
  | .chain c => (s.intake.chainGroup.get c).last.map (·.sequence)
  | .site => s.intake.siteGroup.last.map (·.sequence)

/-- The reason a completed frame is discarded, if any: CHECK, then FAULT, then DUPLICATE (R29). -/
def frameFault (s : State) (g : GroupNo) (x : FrameWords) : Option DiscardReason :=
  if x.check ≠ checkWord x.header x.fields then some .check
  else if headerFault x.header then some .fault
  else if lastSequence s g = some (headerSequence x.header) then some .duplicate
  else none

/-- The group record after a valid frame (R33, steps 1 to 4; R38). -/
def acceptInto {ρ : Type} (p : Profile) (now : Word32) (readings : ρ) (limited : List Nat) (sequence : Nat) :
    GroupRecord ρ :=
  { last := some ⟨readings, limited, sequence, now⟩
    freshness := .fresh
    staleDeadline := some (now + BitVec.ofNat 32 p.ts)
    lostDeadline := some (now + BitVec.ofNat 32 p.tm) }

/-- The evaluation that a valid frame delivers says whether the group was STALE or LOST before it (R33, R34). -/
def returning (x : Freshness) : Bool := decide (x ≠ .fresh)

/-- A valid chain frame taken: the group record, the counter and the evaluation delivered to the chain (R33). -/
def acceptChain (c : ChainNo) (header : Word16) (fields : List Word16) (s : State) : State :=
  let x := conditionChain header fields
  let was := s.intake.chainGroup.get c
  let s1 := { s with intake := { s.intake with
      chainGroup := s.intake.chainGroup.set c
        (acceptInto s.store.active (siteClock s) x.1 x.2 (headerSequence header))
      statistics := countAccepted (.chain c) s.intake.statistics } }
  setInbox c { inboxOf s c with intake := (inboxOf s c).intake ++ [.evaluation x.1 (returning was.freshness)] } s1

/-- A valid site frame taken, and the evaluation delivered to the Site Monitor (R33). -/
def acceptSite (header : Word16) (fields : List Word16) (s : State) : State :=
  let x := conditionSite header fields
  let was := s.intake.siteGroup
  { s with
    intake := { s.intake with
      siteGroup := acceptInto s.store.active (siteClock s) x.1 x.2 (headerSequence header)
      statistics := countAccepted .site s.intake.statistics }
    site := { s.site with intake := s.site.intake ++ [.evaluation x.1 (returning was.freshness)] } }

/-- A valid frame taken by its group's record. -/
def acceptFrame (g : GroupNo) (header : Word16) (fields : List Word16) (s : State) : State :=
  match g with
  | .chain c => acceptChain c header fields s
  | .site => acceptSite header fields s

/-- A frame ends: the receiver returns to HUNTING, holding the last bits of its check word for the comparison
(assumption 25), and the frame is discarded or accepted. -/
def endFrame (bits : List Bool) (g : GroupNo) (x : FrameWords) (s : State) : State :=
  let s1 := setReceiver (.hunting (lastBits 15 bits)) s
  match frameFault s g x with
  | some k => countDiscard k s1
  | none => acceptFrame g x.header x.fields s1

/-- The bits since the sync word, where they end with the check word of a frame. -/
def sampleFrameEvent (bits : List Bool) (s : State) : State :=
  if inSampleFrame s then
    match frameWords bits with
    | some x =>
      match frameGroup x with
      | some g => endFrame bits g x s
      | none => s
    | none => s
  else s

/-- SAMPLE_FRAME (R29). -/
def execSampleFrame (dt : Nat) (header fields check : List Bool) (s : State) : Host.Outcome State Fault Refusal :=
  .next (whileRunning (sampleFrameEvent (header ++ fields ++ check)) (elapse dt s))

/-- A header naming group 5, 6 or 7 discards the frame at once (R27). -/
def discardGroup (bits : List Bool) (s : State) : State :=
  if inSampleFrame s && (oneWord bits).any fun header => (headerGroupNo header).isNone then
    countDiscard .group (setReceiver (.hunting (lastBits 15 bits)) s)
  else s

/-- GROUP_DISCARD (R27). -/
def execGroupDiscard (dt : Nat) (header : List Bool) (s : State) : Host.Outcome State Fault Refusal :=
  .next (whileRunning (discardGroup header) (elapse dt s))

/-- An aligned word equal to the sync word ends the frame as SHORT and starts a new one (R28). -/
def restartFrame (bits : List Bool) (s : State) : State :=
  if inSampleFrame s && restartsFrame bits then countDiscard .short (setReceiver (.inFrame s.time) s) else s

/-- SHORT_FRAME_SYNC (R28). -/
def execShortFrameSync (x : Arrival Bool) (s : State) : Host.Outcome State Fault Refusal :=
  .next (whileRunning (restartFrame x.got) (elapse x.dt s))

/-- The SCLK silence that ends a frame, in µs (R28). -/
def silenceMicros : Nat := 1000

/-- 1 ms without an SCLK edge drops the bits held and the frame as SHORT (R28). `quiet` is the time since the last edge,
which came no earlier than the frame's sync word. -/
def timeOutFrame (bits : List Bool) (quiet : Nat) (s : State) : State :=
  match s.intake.receiver with
  | .inFrame since =>
    if unfinishedFrame bits && decide (silenceMicros ≤ quiet) && decide (since + quiet ≤ s.time) then
      countDiscard .short (setReceiver (.hunting []) s)
    else s
  | .hunting _ => s

/-- SHORT_FRAME_TIMEOUT (R28). -/
def execShortFrameTimeout (x : Silence Bool) (s : State) : Host.Outcome State Fault Refusal :=
  .next (whileRunning (timeOutFrame x.got x.quiet) (elapse x.dt s))

/-- While HUNTING, each bit is compared with those held: the one that completes a sync word takes the receiver IN FRAME,
and bits that complete none are skipped, the last fifteen of them held (R26). Bits beyond a match belong to the frame's
own commands (assumption 8). -/
def matchSync (bits : List Bool) (s : State) : State :=
  match s.intake.receiver with
  | .hunting held =>
    match huntBits held bits with
    | .searching still => setReceiver (.hunting still) s
    | .matched [] => setReceiver (.inFrame s.time) s
    | .matched (_ :: _) => s
  | .inFrame _ => s

/-- SYNC_WORD_MATCH (R26). -/
def execSyncWordMatch (x : Arrival Bool) (s : State) : Host.Outcome State Fault Refusal :=
  .next (whileRunning (matchSync x.got) (elapse x.dt s))

/-! ## Freshness (R36, R37) -/

/-- A FRESH group whose stale deadline has been reached. -/
def staleDue {ρ : Type} (now : Word32) (g : GroupRecord ρ) : Bool :=
  decide (g.freshness = .fresh) && g.staleDeadline.any (reached now)

/-- The group record once STALE: the stale deadline is removed (R36). -/
def becomeStale {ρ : Type} (g : GroupRecord ρ) : GroupRecord ρ := { g with freshness := .stale, staleDeadline := none }

/-- A STALE group whose lost deadline has been reached: that deadline. -/
def lostDue {ρ : Type} (now : Word32) (g : GroupRecord ρ) : Option Word32 :=
  if g.freshness = .stale then g.lostDeadline.filter (reached now) else none

/-- The group record once LOST: the lost deadline is removed (R37). -/
def becomeLost {ρ : Type} (g : GroupRecord ρ) : GroupRecord ρ := { g with freshness := .lost, lostDeadline := none }

/-- A group goes STALE and its owner is told. -/
def reachStale (g : GroupNo) (s : State) : State :=
  match g with
  | .chain c =>
    if staleDue (siteClock s) (s.intake.chainGroup.get c) then
      setInbox c { inboxOf s c with intake := (inboxOf s c).intake ++ [.wentStale] }
        { s with intake := { s.intake with
            chainGroup := s.intake.chainGroup.set c (becomeStale (s.intake.chainGroup.get c)) } }
    else s
  | .site =>
    if staleDue (siteClock s) s.intake.siteGroup then
      { s with
        intake := { s.intake with siteGroup := becomeStale s.intake.siteGroup }
        site := { s.site with intake := s.site.intake ++ [.wentStale] } }
    else s

/-- STALE_DEADLINE (R36). -/
def execStaleDeadline (dt : Nat) (g : GroupNo) (s : State) : Host.Outcome State Fault Refusal :=
  .next (whileRunning (reachStale g) (elapse dt s))

/-- A group goes LOST and its owner is told. -/
def reachLost (g : GroupNo) (s : State) : State :=
  match g with
  | .chain c =>
    match lostDue (siteClock s) (s.intake.chainGroup.get c) with
    | some due =>
      setInbox c { inboxOf s c with intake := (inboxOf s c).intake ++ [.wentLost due] }
        { s with intake := { s.intake with
            chainGroup := s.intake.chainGroup.set c (becomeLost (s.intake.chainGroup.get c)) } }
    | none => s
  | .site =>
    match lostDue (siteClock s) s.intake.siteGroup with
    | some due =>
      { s with
        intake := { s.intake with siteGroup := becomeLost s.intake.siteGroup }
        site := { s.site with intake := s.site.intake ++ [.wentLost due] } }
    | none => s

/-- LOST_DEADLINE (R37). -/
def execLostDeadline (dt : Nat) (g : GroupNo) (s : State) : Host.Outcome State Fault Refusal :=
  .next (whileRunning (reachLost g) (elapse dt s))

/-! ## Coolant flow (R40, R41) -/

/-- The time a flow line must hold a level, in µs (R40). -/
def flowMicros : Nat := 20

/-- Chain `c`'s flow counter set replaced. -/
def setFlow (c : ChainNo) (x : FlowCounter) (s : State) : State :=
  { s with intake := { s.intake with flow := s.intake.flow.set c x } }

/-- Chain `c`'s flow filter replaced. -/
def setFlowFilter (c : ChainNo) (f : FlowFilter) (s : State) : State :=
  setFlow c { s.intake.flow.get c with filter := f } s

/-- A flow line changes level: its filter times the new level from now while the part runs (R40). -/
def edgeFlow (c : ChainNo) (high : Bool) (s : State) : State :=
  if s.pins.flows.get c = high then s
  else
    whileRunning (fun t => setFlowFilter c { (t.intake.flow.get c).filter with since := t.time } t)
      { s with pins := { s.pins with flows := s.pins.flows.set c high } }

/-- FLOW_LINE_EDGE (R40). -/
def execFlowLineEdge (dt : Nat) (c : ChainNo) (high : Bool) (s : State) : Host.Outcome State Fault Refusal :=
  .next (edgeFlow c high (elapse dt s))

/-- A line that has stayed high for 20 µs since an accepted rise qualifies a pulse (R40). -/
def qualifyFlow (c : ChainNo) (s : State) : State :=
  let x := s.intake.flow.get c
  if s.pins.flows.get c && x.filter.armed && decide (x.filter.since + flowMicros ≤ s.time) then
    setFlow c { x with count := x.count + 1, filter := { x.filter with high := true, armed := false } } s
  else s

/-- FLOW_PULSE_QUALIFY (R40). -/
def execFlowPulseQualify (dt : Nat) (c : ChainNo) (s : State) : Host.Outcome State Fault Refusal :=
  .next (whileRunning (qualifyFlow c) (elapse dt s))

/-- A line that has stayed low for 20 µs arms its filter again (R40). -/
def rearmFlow (c : ChainNo) (s : State) : State :=
  let f := (s.intake.flow.get c).filter
  if !s.pins.flows.get c && !f.armed && decide (f.since + flowMicros ≤ s.time) then
    setFlowFilter c { f with high := false, armed := true } s
  else s

/-- FLOW_FILTER_REARM (R40). -/
def execFlowFilterRearm (dt : Nat) (c : ChainNo) (s : State) : Host.Outcome State Fault Refusal :=
  .next (whileRunning (rearmFlow c) (elapse dt s))

/-- A chain's counter set at a gate end (R41, steps 1 and 2). -/
def gateCounter (p : Profile) (x : FlowCounter) : FlowCounter :=
  { x with
    count := 0
    rate := x.count * 4
    lowGates := if x.count * 4 < p.flowMin then (if x.lowGates < 255 then x.lowGates + 1 else x.lowGates) else 0 }

/-- The flow gate result of a counter set (R41, step 3). -/
def gateResult (p : Profile) (x : FlowCounter) : FlowResult := ⟨x.rate, decide (p.flowDwell ≤ x.lowGates)⟩

/-- A gate end: each chain's flow counter set, and its result delivered (R41). -/
def endGate (s : State) : State :=
  if s.intake.gateDue ≤ s.time then
    let flow := s.intake.flow.map (gateCounter s.store.active)
    { s with
      intake := { s.intake with flow := flow, gateDue := s.intake.gateDue + gateMicros }
      chains := Quad.ofFn fun c =>
        { chainOfState s c with inbox :=
            { inboxOf s c with flow := (inboxOf s c).flow ++ [gateResult s.store.active (flow.get c)] } } }
  else s

/-- GATE_END (R41). -/
def execGateEnd (dt : Nat) (s : State) : Host.Outcome State Fault Refusal :=
  .next (whileRunning endGate (elapse dt s))

end Sys2Proof.Machine
end

