-- ==== Sys2Proof/Machine/OutputEvents.lean ====
section
/-! DEFINITION. The completions of the level bus and of the nonvolatile writes, the load timer, and the joining of
capture records (R121, R141, R156, R161). -/

namespace Sys2Proof.Machine

/-! ## Level bus (R141) -/

/-- The bus after a transfer's end: last sent is the level sent, the bus is free, and the next transfer starts. -/
def endTransfer (now : Nat) (t : Transfer) (b : LevelBus) : LevelBus :=
  arbitrate now { b with lastSent := b.lastSent.set t.chain t.level, inFlight := none }

/-- The transfer in flight ends once its 12 µs have passed. -/
def transferEvent (s : State) : State :=
  match s.levelBus.inFlight with
  | some t =>
    if t.started + transferMicros ≤ s.time then { s with levelBus := endTransfer s.time t s.levelBus } else s
  | none => s

/-- LEVEL_TRANSFER_COMPLETE (R141). -/
def execLevelTransferComplete (dt : Nat) (s : State) : Host.Outcome State Fault Refusal :=
  .next (whileRunning transferEvent (elapse dt s))

/-! ## Capture Queue (R121) -/

/-- The queue's capacity (R120). -/
def captureCapacity : Nat := 16

/-- The queue after a record joins: it takes the next sequence number; a full queue loses its oldest, and the joining
record's gap is true. -/
def joinQueue (x : CaptureRecord) (q : CaptureQueue) : CaptureQueue :=
  let full := decide (captureCapacity ≤ q.records.length)
  { q with
    records := (if full then q.records.drop 1 else q.records) ++ [⟨q.next, full, x⟩]
    next := q.next + 1 }

/-- The front handed record joins the queue. -/
def joinEvent (s : State) : State :=
  match s.capture.handed with
  | [] => s
  | x :: rest => finish (raiseCapture { s with capture := joinQueue x.record { s.capture with handed := rest } })

/-- CAPTURE_RECORD_JOIN (R121). -/
def execCaptureRecordJoin (dt : Nat) (s : State) : Host.Outcome State Fault Refusal :=
  .next (whileRunning joinEvent (elapse dt s))

/-! ## Nonvolatile writes (R161, R158) -/

/-- The write in progress is over; the next pending one starts. -/
def endWrite (s : State) : State := startWrite { s with nv := { s.nv with inProgress := none } }

/-- A lockout record write completes: the record holds the latches taken at its start, LOCKOUT_RECORD_FAULT leaves. -/
def lockoutWriteEvent (s : State) : State :=
  match s.nv.inProgress with
  | some ⟨.lockout latches, started⟩ =>
    if started + recordWriteMicros ≤ s.time then
      finish (endWrite (setAlarms { s.alarms with lockoutRecordFault := false }
        { s with array := { s.array with lockout := .bytes (recordBytes (latchByte latches)) } }))
    else s
  | _ => s

/-- LOCKOUT_RECORD_WRITE_COMPLETE (R161). -/
def execLockoutRecordWriteComplete (dt : Nat) (s : State) : Host.Outcome State Fault Refusal :=
  .next (whileRunning lockoutWriteEvent (elapse dt s))

/-- The directory record that names designation `d` (R161). -/
def directoryCell (d : Designation) : NvCell := .bytes (recordBytes (BitVec.ofNat 8 (designationCode d)))

/-- A directory write completes: the record holds the content taken at its start, DIRECTORY_FAULT leaves. -/
def directoryWriteEvent (s : State) : State :=
  match s.nv.inProgress with
  | some ⟨.directory d, started⟩ =>
    if started + recordWriteMicros ≤ s.time then
      finish (endWrite (setAlarms { s.alarms with directoryFault := false }
        { s with array := { s.array with directory := directoryCell d } }))
    else s
  | _ => s

/-- DIRECTORY_WRITE_COMPLETE (R161). -/
def execDirectoryWriteComplete (dt : Nat) (s : State) : Host.Outcome State Fault Refusal :=
  .next (whileRunning directoryWriteEvent (elapse dt s))

/-- The LOAD_END reply produced when its slot write completes: the request in hand's tag, the slot and the image's name
and revision (R158, R168). -/
def replyLoadEnd (w : SlotWrite) (s : State) : State :=
  match s.link.inHand with
  | some h =>
    { s with link := { s.link with
        reply := some (acceptance h.kind h.tag (namedProfile (.slot w.slot) (profileOfImage w.image))) } }
  | none => s

/-- A slot write completes: the slot holds the image and is VALID, the load is CLOSED, the LOAD_END reply is produced. -/
def slotWriteEvent (s : State) : State :=
  match s.nv.inProgress with
  | some ⟨.slot w, started⟩ =>
    if started + slotWriteMicros ≤ s.time then
      finish (endWrite (replyLoadEnd w
        { s with
          array := { s.array with slots := s.array.slots.set w.slot (.bytes w.image) }
          store := { s.store with slots := s.store.slots.set w.slot .valid, load := .closed } }))
    else s
  | _ => s

/-- SLOT_WRITE_COMPLETE (R158). -/
def execSlotWriteComplete (dt : Nat) (s : State) : Host.Outcome State Fault Refusal :=
  .next (whileRunning slotWriteEvent (elapse dt s))

/-! ## The load timer (R156) -/

/-- The load timer's length in µs. -/
def loadMicros : Nat := 10000000

/-- The load replaced. -/
def setLoad (l : Load) (s : State) : State := { s with store := { s.store with load := l } }

/-- 10 s with no accepted segment close the load and discard the staging image. -/
def loadTimerEvent (s : State) : State :=
  match s.store.load with
  | .opened _ _ _ timer => if timer + loadMicros ≤ s.time then setLoad .closed s else s
  | _ => s

/-- LOAD_TIMEOUT (R156). -/
def execLoadTimeout (dt : Nat) (s : State) : Host.Outcome State Fault Refusal :=
  .next (whileRunning loadTimerEvent (elapse dt s))

end Sys2Proof.Machine
end

