-- ==== Sys2Proof/Machine/Requests.lean ====
section
/-! DEFINITION. The Control Link's receiver, request taking, every request of Table 10-2, and the transmit line's
completions (chapter 10, and the chapters that own the requests). -/

namespace Sys2Proof.Machine

/-! ## The receiver (R164, R165) -/

/-- The link receiver set. -/
def setLinkReceiver (x : LinkReceiver) (s : State) : State := { s with link := { s.link with receiver := x } }

/-- The link receiver is IN FRAME. -/
def inLinkFrame (s : State) : Bool :=
  match s.link.receiver with
  | .inFrame _ => true
  | .hunting => false

/-- While HUNTING, every byte other than 0xC3 is skipped and a 0xC3 starts a frame; IN FRAME it is ordinary data (R165). -/
def startFrame (skipped : List Byte) (s : State) : State :=
  if inLinkFrame s || skipped.contains startByte then s else setLinkReceiver (.inFrame s.time) s

/-- CONTROL_START_BYTE (R165). -/
def execControlStartByte (x : Arrival Byte) (s : State) : Host.Outcome State Fault Refusal :=
  .next (whileRunning (startFrame x.got) (elapse x.dt s))

/-- A character whose stop bit is found low: any frame being received is discarded and the receiver hunts for a start
byte (R164). -/
def framingErrorEvent (character : List Bool) (s : State) : State :=
  if framingFault character then setLinkReceiver .hunting s else s

/-- FRAMING_ERROR (R164). -/
def execFramingError (x : Arrival Bool) (s : State) : Host.Outcome State Fault Refusal :=
  .next (whileRunning (framingErrorEvent x.got) (elapse x.dt s))

/-- A bad length byte, or a bad CRC at the end, discards the frame with no reply (R165). -/
def discardFrame (frame : List Byte) (s : State) : State :=
  if inLinkFrame s && badFrame frame then setLinkReceiver .hunting s else s

/-- CONTROL_FRAME_DISCARD (R165). -/
def execControlFrameDiscard (x : Arrival Byte) (s : State) : Host.Outcome State Fault Refusal :=
  .next (whileRunning (discardFrame x.got) (elapse x.dt s))

/-- The gap between bytes that discards a frame, in µs (R165). -/
def gapMicros : Nat := 5000

/-- More than 5 ms between two bytes of a frame discard it (R165). `quiet` is the time since the stop bit of the last byte,
which came no earlier than the frame's start byte. -/
def gapEvent (frame : List Byte) (quiet : Nat) (s : State) : State :=
  match s.link.receiver with
  | .inFrame since =>
    if unfinishedBytes frame && decide (gapMicros < quiet) && decide (since + quiet ≤ s.time) then
      setLinkReceiver .hunting s
    else s
  | .hunting => s

/-- CONTROL_FRAME_GAP_TIMEOUT (R165). -/
def execControlFrameGapTimeout (x : Silence Byte) (s : State) : Host.Outcome State Fault Refusal :=
  .next (whileRunning (gapEvent x.got x.quiet) (elapse x.dt s))

/-! ## Request taking (R166) -/

/-- What a request's owner answers: an acceptance body, a refusal, or nothing yet. -/
inductive Answer
  | accept (body : List Byte)
  | refuse (why : Refused) (detail : List Byte)
  | hold
  deriving DecidableEq, Repr

/-- The reply produced from an answer (R166, R168). -/
def produceReply (kind tag : Byte) (a : Answer) (s : State) : State :=
  match a with
  | .accept body => { s with link := { s.link with reply := some (acceptance kind tag body) } }
  | .refuse why detail => { s with link := { s.link with reply := some (refusal kind tag why detail) } }
  | .hold => s

/-- The frame becomes the request in hand. -/
def takeInHand (kind tag : Byte) (s : State) : State :=
  { s with link := { s.link with inHand := some ⟨kind, tag⟩ } }

/-- A good frame that completes while a request is in hand: it goes to the overlap slot, or is discarded if the slot is
full (R166). -/
def overlapSlot (kind tag : Byte) (s : State) : State :=
  match s.link.overlap with
  | some _ => s
  | none => { s with link := { s.link with overlap := some ⟨kind, tag, false⟩ } }

/-- A complete frame with a good CRC: the receiver returns to HUNTING; with a request in hand the frame goes to the overlap
slot; else `take` takes it as the request in hand (R165, R166). -/
def receiveFrame (m : Message) (take : State → State) (s : State) : State :=
  let s1 := setLinkReceiver .hunting s
  match s1.link.inHand with
  | some _ => overlapSlot m.kind m.tag s1
  | none => take (takeInHand m.kind m.tag s1)

/-- A request taken: its body's length is checked, and its owner serves it (R166). -/
def serveRequest (m : Message) (length : Nat) (serve : List Byte → State → State × Answer) (s : State) : State :=
  if m.body.length = length then
    let x := serve m.body s
    finish (produceReply m.kind m.tag x.2 x.1)
  else finish (produceReply m.kind m.tag (.refuse .badLength (bytes8 length)) s)

/-- A request's frame completes: its length byte, its CRC and its kind are those of a request of this kind, and it is
taken (R165, R166). -/
def takeRequest (kind : Byte) (length : Nat) (serve : List Byte → State → State × Answer) (frame : List Byte)
    (s : State) : State :=
  match readFrame frame with
  | some m =>
    if inLinkFrame s && m.kind == kind then receiveFrame m (serveRequest m length serve) s else s
  | none => s

/-- A request that names a chain: a number outside 0 to 3 is refused DESIGNATION (R166). -/
def serveChain (serve : ChainNo → List Byte → State → State × Answer) (body : List Byte) (s : State) : State × Answer :=
  match chainOf (byteAt body 0) with
  | some c => serve c body s
  | none => (s, .refuse .designation [byteAt body 0])

/-- A good frame whose kind is no request kind: refused UNKNOWN_KIND (R166). -/
def takeUnknown (frame : List Byte) (s : State) : State :=
  match readFrame frame with
  | some m =>
    if inLinkFrame s && !requestKinds.contains m.kind then
      receiveFrame m (fun t => finish (produceReply m.kind m.tag (.refuse .unknownKind []) t)) s
    else s
  | none => s

/-- UNKNOWN_KIND (R166). -/
def execUnknownKind (dt : Nat) (head body crc : List Byte) (s : State) : Host.Outcome State Fault Refusal :=
  .next (whileRunning (takeUnknown (head ++ body ++ crc)) (elapse dt s))

/-- A good frame of any kind arrives while a request is in hand (R166). -/
def takeOverlap (frame : List Byte) (s : State) : State :=
  match readFrame frame with
  | some m => if inLinkFrame s && s.link.inHand.isSome then receiveFrame m id s else s
  | none => s

/-- OVERLAP_FRAME (R166). -/
def execOverlapFrame (dt : Nat) (head body crc : List Byte) (s : State) : Host.Outcome State Fault Refusal :=
  .next (whileRunning (takeOverlap (head ++ body ++ crc)) (elapse dt s))

/-! ## Reads (R87, R113, R123, R138, R154, R155, R160, R168) -/

/-- IDENTIFY's answer. -/
def serveIdentify (_body : List Byte) (s : State) : State × Answer := (s, .accept (identifyBody s))

/-- IDENTIFY, kind 0x01. -/
def execIdentify (dt : Nat) (inner crc : List Byte) (s : State) : Host.Outcome State Fault Refusal :=
  .next (whileRunning (takeRequest 0x01 0 serveIdentify (inner ++ crc)) (elapse dt s))

/-- READ_CHAIN's answer. -/
def serveReadChain (c : ChainNo) (_body : List Byte) (s : State) : State × Answer := (s, .accept (chainBody s c))

/-- READ_CHAIN, kind 0x02. -/
def execReadChain (dt : Nat) (inner crc : List Byte) (s : State) : Host.Outcome State Fault Refusal :=
  .next (whileRunning (takeRequest 0x02 1 (serveChain serveReadChain) (inner ++ crc)) (elapse dt s))

/-- READ_SITE's answer. -/
def serveReadSite (_body : List Byte) (s : State) : State × Answer := (s, .accept (siteBody s))

/-- READ_SITE, kind 0x03. -/
def execReadSite (dt : Nat) (inner crc : List Byte) (s : State) : Host.Outcome State Fault Refusal :=
  .next (whileRunning (takeRequest 0x03 0 serveReadSite (inner ++ crc)) (elapse dt s))

/-- READ_TIMING's answer. -/
def serveReadTiming (_body : List Byte) (s : State) : State × Answer := (s, .accept (timingBody s))

/-- READ_TIMING, kind 0x04. -/
def execReadTiming (dt : Nat) (inner crc : List Byte) (s : State) : Host.Outcome State Fault Refusal :=
  .next (whileRunning (takeRequest 0x04 0 serveReadTiming (inner ++ crc)) (elapse dt s))

/-- READ_TRIPS's answer. -/
def serveReadTrips (c : ChainNo) (_body : List Byte) (s : State) : State × Answer := (s, .accept (tripsBody s c))

/-- READ_TRIPS, kind 0x05. -/
def execReadTrips (dt : Nat) (inner crc : List Byte) (s : State) : Host.Outcome State Fault Refusal :=
  .next (whileRunning (takeRequest 0x05 1 (serveChain serveReadTrips) (inner ++ crc)) (elapse dt s))

/-- READ_CAPTURE's answer. -/
def serveReadCapture (_body : List Byte) (s : State) : State × Answer := (s, .accept (captureBody s.capture))

/-- READ_CAPTURE, kind 0x06. -/
def execReadCapture (dt : Nat) (inner crc : List Byte) (s : State) : Host.Outcome State Fault Refusal :=
  .next (whileRunning (takeRequest 0x06 0 serveReadCapture (inner ++ crc)) (elapse dt s))

/-- READ_STORE's answer. -/
def serveReadStore (_body : List Byte) (s : State) : State × Answer := (s, .accept (storeBody s))

/-- READ_STORE, kind 0x07. -/
def execReadStore (dt : Nat) (inner crc : List Byte) (s : State) : Host.Outcome State Fault Refusal :=
  .next (whileRunning (takeRequest 0x07 0 serveReadStore (inner ++ crc)) (elapse dt s))

/-! ## The operator's requests at a chain (R15 to R21) -/

/-- SET_LEVEL's answer: the value clamped to 1000 becomes S, and P is recomposed (R21). -/
def serveSetLevel (c : ChainNo) (body : List Byte) (s : State) : State × Answer :=
  let v := min 1000 (u16At body 1)
  (commitChain c (recompose { recordOf s c with setPoint := v }) s, .accept (bytes8 c.val ++ bytes16 v))

/-- SET_LEVEL, kind 0x10. -/
def execSetLevel (dt : Nat) (inner crc : List Byte) (s : State) : Host.Outcome State Fault Refusal :=
  .next (whileRunning (takeRequest 0x10 3 (serveChain serveSetLevel) (inner ++ crc)) (elapse dt s))

/-- A chain's record after a CHAIN_ON that is not refused: only a chain in DISABLED is changed (R17, cases 2 and 3). -/
def switchOnRecord (s : State) (c : ChainNo) (r : ChainRecord) : ChainRecord :=
  match r.mode with
  | .disabled _ =>
    if (profileOf s c).lockoutLimit ≤ weightSum r.tripList then { r with mode := .lockout, latch := true, applied := 0 }
    else enterQualify s c r
  | _ => r

/-- An acceptance that reports the chain's state after the request (R16). -/
def acceptChainState (c : ChainNo) (s : State) : State × Answer := (s, .accept (chainStateBody s c))

/-- CHAIN_ON's answer: refused LOCKED_OUT in DISABLED with the latch set, accepted in every other case (R17). -/
def serveChainOn (c : ChainNo) (_body : List Byte) (s : State) : State × Answer :=
  let r := recordOf s c
  if modeState r.mode = .disabled ∧ r.latch = true then (s, .refuse .lockedOut [])
  else acceptChainState c (commitChain c (switchOnRecord s c r) s)

/-- CHAIN_ON, kind 0x11. -/
def execChainOn (dt : Nat) (inner crc : List Byte) (s : State) : Host.Outcome State Fault Refusal :=
  .next (whileRunning (takeRequest 0x11 1 (serveChain serveChainOn) (inner ++ crc)) (elapse dt s))

/-- The chain switched off: from CLASSIFY the trip is settled first, with its entry and capture record; a chain already
in DISABLED is unchanged (R15, R18, R19). -/
def switchOff (c : ChainNo) (s : State) : State :=
  let r := recordOf s c
  match r.mode with
  | .disabled _ => s
  | .classify cause snap _ =>
    let trips := fastTripList cause snap r
    commitChain c (enterDisabled s.time (profileOf s c) { r with tripList := trips })
      (handRecord (chainSource c) (fastCapture c cause snap trips) s)
  | _ => commitChain c (enterDisabled s.time (profileOf s c) r) s

/-- CHAIN_OFF's answer (R15). -/
def serveChainOff (c : ChainNo) (_body : List Byte) (s : State) : State × Answer := acceptChainState c (switchOff c s)

/-- CHAIN_OFF, kind 0x12. -/
def execChainOff (dt : Nat) (inner crc : List Byte) (s : State) : Host.Outcome State Fault Refusal :=
  .next (whileRunning (takeRequest 0x12 1 (serveChain serveChainOff) (inner ++ crc)) (elapse dt s))

/-- A chain's record after CLEAR_LOCKOUT: a set latch is cleared and the list emptied, and a chain in LOCKOUT enters
QUALIFY; with the latch clear nothing changes (R20). -/
def clearLockoutRecord (s : State) (c : ChainNo) (r : ChainRecord) : ChainRecord :=
  if r.latch then
    let r1 := { r with latch := false, tripList := [] }
    match r.mode with
    | .lockout => enterQualify s c r1
    | _ => r1
  else r

/-- CLEAR_LOCKOUT's answer (R20). -/
def serveClearLockout (c : ChainNo) (_body : List Byte) (s : State) : State × Answer :=
  acceptChainState c (commitChain c (clearLockoutRecord s c (recordOf s c)) s)

/-- CLEAR_LOCKOUT, kind 0x13. -/
def execClearLockout (dt : Nat) (inner crc : List Byte) (s : State) : Host.Outcome State Fault Refusal :=
  .next (whileRunning (takeRequest 0x13 1 (serveChain serveClearLockout) (inner ++ crc)) (elapse dt s))

/-! ## RELEASE_CAPTURE (R124) -/

/-- RELEASE_CAPTURE's answer: the oldest record is removed if it is the one named; another in the queue is refused
SEQUENCE, one not in it NOT_FOUND. -/
def serveReleaseCapture (body : List Byte) (s : State) : State × Answer :=
  let n := BitVec.ofNat 16 (u16At body 0)
  match s.capture.records with
  | [] => (s, .refuse .notFound [])
  | x :: rest =>
    if x.sequence = n then
      ({ s with capture := { s.capture with records := rest } }, .accept (releaseBody rest))
    else if rest.any fun y => decide (y.sequence = n) then (s, .refuse .sequence (bytes16 x.sequence.toNat))
    else (s, .refuse .notFound [])

/-- RELEASE_CAPTURE, kind 0x14. -/
def execReleaseCapture (dt : Nat) (inner crc : List Byte) (s : State) : Host.Outcome State Fault Refusal :=
  .next (whileRunning (takeRequest 0x14 2 serveReleaseCapture (inner ++ crc)) (elapse dt s))

/-! ## Profile loads (R156 to R158) -/

/-- Segments in an image, and bytes in a segment (R155). -/
def segmentCount : Nat := 8

/-- Bytes in a segment. -/
def segmentLength : Nat := 32

/-- A staging image of zeros (R156). -/
def clearedStaging : List Byte := List.replicate imageLength 0

/-- LOAD_BEGIN's answer (R156). -/
def serveLoadBegin (body : List Byte) (s : State) : State × Answer :=
  match slotOf (byteAt body 0) with
  | none => (s, .refuse .designation [byteAt body 0])
  | some k =>
    match s.store.load with
    | .committing _ => (s, .refuse .busy [])
    | _ => (setLoad (.opened k 0 clearedStaging s.time) s, .accept (bytes8 k.val ++ bytes8 0))

/-- LOAD_BEGIN, kind 0x20. -/
def execLoadBegin (dt : Nat) (inner crc : List Byte) (s : State) : Host.Outcome State Fault Refusal :=
  .next (whileRunning (takeRequest 0x20 1 serveLoadBegin (inner ++ crc)) (elapse dt s))

/-- A segment's bytes at their place in the staging image (R157). -/
def storeSegment (staging : List Byte) (i : Nat) (data : List Byte) : List Byte :=
  staging.take (segmentLength * i) ++ data ++ staging.drop (segmentLength * i + segmentLength)

/-- LOAD_SEGMENT's answer (R157). -/
def serveLoadSegment (body : List Byte) (s : State) : State × Answer :=
  let i := u8At body 0
  match s.store.load with
  | .closed => (s, .refuse .noLoad [])
  | .committing _ => (s, .refuse .busy [])
  | .opened k n staging _ =>
    if i = n ∧ i < segmentCount then
      (setLoad (.opened k (n + 1) (storeSegment staging i (body.drop 1)) s.time) s, .accept (bytes8 (n + 1)))
    else (s, .refuse .sequence (bytes8 n))

/-- LOAD_SEGMENT, kind 0x21. -/
def execLoadSegment (dt : Nat) (inner crc : List Byte) (s : State) : Host.Outcome State Fault Refusal :=
  .next (whileRunning (takeRequest 0x21 33 serveLoadSegment (inner ++ crc)) (elapse dt s))

/-- A good, valid image is committed: the slot is WRITING and a slot write joins the pending set (R158). -/
def commitImage (k : Fin 3) (image : List Byte) (s : State) : State :=
  requestSlotWrite ⟨k, image⟩
    { s with store := { s.store with load := .committing k, slots := s.store.slots.set k .writing } }

/-- LOAD_END's answer (R158): the CRC is tested before validation, and a committed load's reply is held. -/
def serveLoadEnd (_body : List Byte) (s : State) : State × Answer :=
  match s.store.load with
  | .closed => (s, .refuse .noLoad [])
  | .committing _ => (s, .refuse .busy [])
  | .opened k n staging _ =>
    if n < segmentCount then (s, .refuse .sequence (bytes8 n))
    else if imageCrcGood staging then
      match failingField staging with
      | some f => (setLoad .closed s, .refuse .invalidField (bytes8 f))
      | none => (commitImage k staging s, .hold)
    else (setLoad .closed s, .refuse .checkFailed [])

/-- LOAD_END, kind 0x22. -/
def execLoadEnd (dt : Nat) (inner crc : List Byte) (s : State) : Host.Outcome State Fault Refusal :=
  .next (whileRunning (takeRequest 0x22 0 serveLoadEnd (inner ++ crc)) (elapse dt s))

/-- LOAD_CANCEL's answer (R156). -/
def serveLoadCancel (_body : List Byte) (s : State) : State × Answer :=
  match s.store.load with
  | .committing _ => (s, .refuse .busy [])
  | _ => (setLoad .closed s, .accept (bytes8 (loadCode .closed)))

/-- LOAD_CANCEL, kind 0x23. -/
def execLoadCancel (dt : Nat) (inner crc : List Byte) (s : State) : Host.Outcome State Fault Refusal :=
  .next (whileRunning (takeRequest 0x23 0 serveLoadCancel (inner ++ crc)) (elapse dt s))

/-! ## ACTIVATE (R159) -/

/-- The activation announced to each block that reads the profile. -/
def announce (p : Profile) (s : State) : State :=
  let s1 := deliverAll (fun b => { b with activations := b.activations ++ [p] }) s
  { s1 with
    site := { s1.site with activations := s1.site.activations ++ [p] }
    fastMute := { s1.fastMute with activations := s1.fastMute.activations ++ [p] }
    tracker := { s1.tracker with activations := s1.tracker.activations ++ [p] } }

/-- The active copy replaced and the activation announced; Output Drive takes DEFAULT_PROFILE with it (R149, R159). -/
def makeActive (d : Designation) (p : Profile) (s : State) : State :=
  setDefaultReason (decide (d = .builtIn))
    (announce p { s with store := { s.store with active := p, source := d } })

/-- The directory content set and a directory write requested, if the persist flag is set (R159, R160). -/
def persistDirectory (persist : Bool) (d : Designation) (s : State) : State :=
  if persist then requestDirectoryWrite { s with store := { s.store with directory := d } } else s

/-- The answer of an ACTIVATE that is accepted. -/
def acceptActivate (d : Designation) (p : Profile) (persist : Bool) (s : State) : State × Answer :=
  (persistDirectory persist d (makeActive d p s), .accept (namedProfile d p ++ bytesFlag persist))

/-- ACTIVATE's answer (R159). -/
def serveActivate (body : List Byte) (s : State) : State × Answer :=
  let persist := byteAt body 1 != 0
  match designationOf (byteAt body 0) with
  | none => (s, .refuse .designation [byteAt body 0])
  | some .builtIn => acceptActivate .builtIn builtInProfile persist s
  | some (.slot k) =>
    match s.store.slots.get k, slotProfile (s.array.slots.get k) with
    | .writing, _ => (s, .refuse .busy [])
    | .valid, some p => acceptActivate (.slot k) p persist s
    | _, _ => (s, .refuse .checkFailed [])

/-- ACTIVATE, kind 0x24. -/
def execActivate (dt : Nat) (inner crc : List Byte) (s : State) : Host.Outcome State Fault Refusal :=
  .next (whileRunning (takeRequest 0x24 2 serveActivate (inner ++ crc)) (elapse dt s))

/-! ## SET_NOTICES and RESET (R169, R172) -/

/-- SET_NOTICES's answer: the mask taken, its six bits. -/
def serveSetNotices (body : List Byte) (s : State) : State × Answer :=
  (replaceMask (noticeSetOf (byteAt body 0)) s, .accept [byteAt body 0 &&& 0x3F])

/-- SET_NOTICES, kind 0x30. -/
def execSetNotices (dt : Nat) (inner crc : List Byte) (s : State) : Host.Outcome State Fault Refusal :=
  .next (whileRunning (takeRequest 0x30 1 serveSetNotices (inner ++ crc)) (elapse dt s))

/-- RESET's answer: an acceptance with no body; the reset follows its last byte (R172). -/
def serveReset (_body : List Byte) (s : State) : State × Answer := (s, .accept [])

/-- RESET, kind 0x3F. -/
def execReset (dt : Nat) (inner crc : List Byte) (s : State) : Host.Outcome State Fault Refusal :=
  .next (whileRunning (takeRequest 0x3F 0 serveReset (inner ++ crc)) (elapse dt s))

/-! ## The transmit line (R166, R171, R172) -/

/-- The kind of RESET's acceptance. -/
def resetAcceptance : Byte := 0xBF

/-- The reply to the request in hand has been sent: the request is gone, the overlap slot's refusal becomes a waiting
reply, and after RESET's acceptance the part is about to enter a warm reset. -/
def replySent (m : Message) (s : State) : State :=
  { s with
    phase := if m.kind = resetAcceptance then .resetDue else s.phase
    link := { s.link with
      transmitting := none
      inHand := none
      overlap := s.link.overlap.map fun o => { o with ready := true } } }

/-- A message has been sent to its last byte. -/
def messageSent (t : Transmission) (s : State) : State :=
  match t.item with
  | .reply => replySent t.message s
  | .busy => { s with link := { s.link with transmitting := none, overlap := none } }
  | .notice _ _ => { s with link := { s.link with transmitting := none } }

/-- The message on CTXD finishes, and the next waiting one starts. -/
def transmitEvent (s : State) : State :=
  match s.link.transmitting with
  | some t => if sentBy s.link t s.time then finish (messageSent t s) else s
  | none => s

/-- TRANSMIT_COMPLETE (R171). -/
def execTransmitComplete (dt : Nat) (s : State) : Host.Outcome State Fault Refusal :=
  .next (whileRunning transmitEvent (elapse dt s))

end Sys2Proof.Machine
end

