-- ==== Sys2Proof/Machine/Resets.lean ====
section
/-! DEFINITION. The resets, the supply and start-up: POWER_ON_RESET, WARM_RESET, START_UP_END,
SUPPLY_BELOW_THRESHOLD and RST_N_RISE (R162, R163, R172). -/

namespace Sys2Proof.Machine

/-! ## Entering a reset -/

/-- The record that a write in progress was writing is left with a bad CRC (R161). -/
def tearWrite (n : NvController) (a : NvArray) : NvArray :=
  match n.inProgress with
  | none => a
  | some w =>
    match w.work with
    | .lockout _ => { a with lockout := .torn }
    | .directory _ => { a with directory := .torn }
    | .slot x => { a with slots := a.slots.set x.slot .torn }

/-- A reset of either kind: every output line asserted, the pending set emptied and the write in progress abandoned,
everything in flight cut off, the level bus idle; the time, the lines in, the nonvolatile array, the trip lists, the Capture Queue's records
and the rate are kept. Each block stands at its start-up values under the built-in default until start-up ends
(R5, R144, R161, R163; assumption 6). -/
def enterReset (phase : Phase) (s : State) : State :=
  { s with
    phase := phase
    lines := assertedLines
    intake := startIntake s.time s.pins.flows
    chains := Quad.ofFn fun c => startChain builtInProfile c (recordOf s c).tripList false
    site := startSite builtInProfile s.pins.ilk
    fastMute := startFastMute s.time builtInProfile s.pins.arcs s.pins.surges
    tracker := startTracker s.time builtInProfile s.pins.fmk
    levelBus := startLevelBus
    alarms := startAlarms true false false
    capture := { s.capture with handed := [] }
    store := startStore builtInProfile .builtIn .builtIn (Trio.fill (.invalid .crc))
    nv := idleNv
    array := tearWrite s.nv s.array
    link := startLink s.link.bsel1 s.link.bsel0 }

/-- What a power-on reset clears beside: the site clock, the trip lists, the Capture Queue and its numbering; the rate
straps are sampled (R163, R164, R126). -/
def clearForPowerOn (bsel1 bsel0 : Bool) (s : State) : State :=
  { s with
    time := 0
    chains := Quad.ofFn fun c => startChain builtInProfile c [] false
    capture := emptyCapture
    link := { s.link with bsel1 := bsel1, bsel0 := bsel0 } }

/-- Where a reset leads while RST_N stands at a level: held in reset while low, else start-up begins (R163). -/
def phaseAfterReset (rstN : Bool) (now : Nat) : Phase := if rstN then .startUp now else .held

/-- POWER_ON_RESET: the supply rises through its operating threshold (R163). The time passed before it is of no
account, since the site clock starts again at 0. -/
def execPowerOnReset (_dt : Nat) (bsel1 bsel0 : Bool) (s : State) : Host.Outcome State Fault Refusal :=
  .next (enterReset (phaseAfterReset s.pins.rstN 0) (clearForPowerOn bsel1 bsel0 { s with array := tearWrite s.nv s.array, nv := idleNv }))

/-- RST_N falls: the part is held in reset until the line rises (R163). Without supply only the line changes. -/
def fallRstN (s : State) : State :=
  let s1 := { s with pins := { s.pins with rstN := false } }
  if s.phase = .unpowered then s1 else enterReset .held s1

/-- The RESET request's warm reset, entered once its acceptance has been sent (R172). -/
def resetByRequest (s : State) : State :=
  if s.phase = .resetDue then enterReset (phaseAfterReset s.pins.rstN s.time) s else s

/-- WARM_RESET (R163). -/
def execWarmReset (dt : Nat) (cause : ResetCause) (s : State) : Host.Outcome State Fault Refusal :=
  .next (match cause with
    | .rstLow => fallRstN (elapse dt s)
    | .requested => resetByRequest (elapse dt s))

/-- SUPPLY_BELOW_THRESHOLD: every output line is held asserted and a write in progress is left with a bad CRC (R145,
R161). What else was in flight is cut off with the power-on reset that follows. -/
def loseSupply (s : State) : State := enterReset .unpowered s

/-- SUPPLY_BELOW_THRESHOLD. -/
def execSupplyBelowThreshold (dt : Nat) (s : State) : Host.Outcome State Fault Refusal :=
  .next (loseSupply (elapse dt s))

/-- RST_N rises after being held low: start-up begins (R163). -/
def riseRstN (s : State) : State :=
  let s1 := { s with pins := { s.pins with rstN := true } }
  if s.phase = .held then enterReset (.startUp s.time) s1 else s1

/-- RST_N_RISE. -/
def execRstNRise (dt : Nat) (s : State) : Host.Outcome State Fault Refusal := .next (riseRstN (elapse dt s))

/-! ## The end of start-up (R162) -/

/-- The length of the level bus's zeroing: four transfers (R144). -/
def zeroingMicros : Nat := 48

/-- The slot states start-up finds (R162, step 2). -/
def foundSlots (a : NvArray) : Trio SlotState := a.slots.map slotStateOf

/-- The designation start-up chooses: what a valid directory names, unless it names a slot that is not VALID; the
built-in default otherwise (R162, step 3). -/
def chosenDesignation (a : NvArray) : Designation :=
  match directoryContent a.directory with
  | some (.slot k) => if slotStateOf (a.slots.get k) = .valid then .slot k else .builtIn
  | some .builtIn => .builtIn
  | none => .builtIn

/-- The profile of a designation: the slot's image, or the built-in default. -/
def designatedProfile (a : NvArray) (d : Designation) : Profile :=
  match d with
  | .builtIn => builtInProfile
  | .slot k =>
    match a.slots.get k with
    | .bytes img => profileOfImage img
    | .torn => builtInProfile

/-- The latches start-up takes: those of a valid lockout record, every one clear from an invalid one (R162, step 4). -/
def foundLatches (a : NvArray) : Quad Bool := (lockoutContent a.lockout).getD (Quad.fill false)

/-- The trip list a chain comes out of start-up with: less every entry whose age has reached the start-up profile's
trip window (R5). -/
def keptTrips (p : Profile) (clock : Word32) (r : ChainRecord) : List TripEntry := ageList p clock r.tripList

/-- Steps 1 to 5 of start-up: every block at its start-up values under the chosen profile (R162). -/
def startBlocks (s : State) : State :=
  let d := chosenDesignation s.array
  let p := designatedProfile s.array d
  let latches := foundLatches s.array
  { s with
    phase := .running
    intake := startIntake s.time s.pins.flows
    chains := Quad.ofFn fun c => startChain p c (keptTrips p (siteClock s) (recordOf s c)) (latches.get c)
    site := startSite p s.pins.ilk
    fastMute := startFastMute s.time p s.pins.arcs s.pins.surges
    tracker := startTracker s.time p s.pins.fmk
    levelBus := startLevelBus
    alarms := startAlarms (decide (d = .builtIn)) (directoryContent s.array.directory).isNone
      (lockoutContent s.array.lockout).isNone
    store := startStore p d ((directoryContent s.array.directory).getD .builtIn) (foundSlots s.array)
    nv := idleNv
    link := startLink s.link.bsel1 s.link.bsel0 }

/-- Where R25 places a chain: LOCKOUT with its latch already set; by the auto-start mask to LOCKOUT, setting the latch,
or to QUALIFY; DISABLED otherwise, and always when the lockout record was found invalid. -/
def placeChain (s : State) (c : ChainNo) : ChainRecord :=
  let r := recordOf s c
  if r.latch then { r with mode := .lockout }
  else if s.alarms.lockoutRecordFault then r
  else if inSet (profileOf s c).autoStart c then
    if (profileOf s c).lockoutLimit ≤ weightSum r.tripList then { r with mode := .lockout, latch := true }
    else { r with mode := .qualify (failingChecks s c r) }
  else r

/-- Step 6: the four chains placed together, CHAIN_LOCKOUT naming those in LOCKOUT, and one lockout record write
requested if any latch was set by it (R25, R150, R162; assumption 9). -/
def placeChains (s : State) : State :=
  let s1 := { s with chains := Quad.ofFn fun c => { chainOfState s c with record := placeChain s c } }
  let s2 := { s1 with alarms := { s1.alarms with
      lockoutChains := Quad.ofFn fun c => decide ((placeChain s c).mode = .lockout) } }
  if latchesOf s1 = latchesOf s then s2 else requestLockoutWrite s2

/-- Start-up's end, once the level bus has been zeroed. -/
def endStartUp (s : State) : State :=
  match s.phase with
  | .startUp began =>
    if zeroingStart began + zeroingMicros ≤ s.time then finish (placeChains (startBlocks s)) else s
  | _ => s

/-- START_UP_END (R162). -/
def execStartUpEnd (dt : Nat) (s : State) : Host.Outcome State Fault Refusal := .next (endStartUp (elapse dt s))

end Sys2Proof.Machine
end

