-- ==== Sys2Proof/Machine/SiteEvents.lean ====
section
/-! DEFINITION. The Site Monitor (chapter 4): site evaluations, site freshness, the interlock and activations. -/

namespace Sys2Proof.Machine

/-- The site record replaced. -/
def setSite (r : SiteRecord) (s : State) : State := { s with site := { s.site with record := r } }

/-- The Site Monitor's waiting Intake events replaced. -/
def setSiteIntake (l : List (IntakeEvent SiteReadings)) (s : State) : State :=
  { s with site := { s.site with intake := l } }

/-- The cause of the site trip event an evaluation delivers, if a condition holds (R77). -/
def siteTripOf (r : SiteRecord) : Option SiteTrip :=
  if r.feederTrip then some .feederMismatch else if r.rejectTrip then some .rejectOvertemp else none

/-- The site record after an evaluation's steps 1 to 7 (R72 to R77). -/
def evaluateSite (p : Profile) (x : SiteReadings) (returned : Bool) (r : SiteRecord) : SiteRecord :=
  let r1 := formSiteLines p x { r with freshness := if returned then .fresh else r.freshness }
  { r1 with ceiling := r1.evaluated, feederTrip := feederTripHolds p r1, rejectTrip := rejectTripHolds p x }

/-- The Site Monitor takes a site evaluation (R72): a return withdraws SITE_LOST and raises the SITE_NOTICE flag (R87), a
changed X and a holding trip condition are delivered to the chains, changed conditions raise the flag. -/
def takeSiteEvaluation (x : SiteReadings) (returned : Bool) (s : State) : State :=
  let old := s.site.record
  let r := evaluateSite s.site.profile x returned old
  let s1 := if returned then raiseSite (setSiteLostReason false s) else s
  let s2 := deliverSite ⟨changedCeiling old.ceiling r.ceiling, siteTripOf r, false⟩ (setSite r s1)
  if r.feederTrip = old.feederTrip ∧ r.rejectTrip = old.rejectTrip then s2 else raiseSite s2

/-- The front event of the Intake taken, where it is an evaluation. -/
def siteEvaluationEvent (s : State) : State :=
  match s.site.intake with
  | .evaluation x returned :: rest => finish (takeSiteEvaluation x returned (setSiteIntake rest s))
  | _ => s

/-- SITE_EVALUATION (R72). -/
def execSiteEvaluation (dt : Nat) (s : State) : Host.Outcome State Fault Refusal :=
  .next (whileRunning siteEvaluationEvent (elapse dt s))

/-- The Site Monitor takes the change to STALE: X falls to the site blind ceiling if it stood higher, and a site
freshness loss is delivered whether or not X changed (R80). -/
def takeSiteStale (s : State) : State :=
  let old := s.site.record
  let r := { old with freshness := .stale, ceiling := min old.evaluated s.site.profile.siteBlind }
  raiseSite (deliverSite ⟨changedCeiling old.ceiling r.ceiling, none, true⟩ (setSite r s))

/-- The front event of the Intake taken, where it is the change to STALE. -/
def siteStaleEvent (s : State) : State :=
  match s.site.intake with
  | .wentStale :: rest => finish (takeSiteStale (setSiteIntake rest s))
  | _ => s

/-- SITE_STALE (R80). -/
def execSiteStale (dt : Nat) (s : State) : Host.Outcome State Fault Refusal :=
  .next (whileRunning siteStaleEvent (elapse dt s))

/-- The Site Monitor takes the change to LOST: SITE_MEAS_LOST is delivered and SITE_LOST joins the alarm reasons; X
stays (R81). -/
def takeSiteLost (s : State) : State :=
  raiseSite
    (setSiteLostReason true
      (deliverSite ⟨none, some .siteMeasLost, false⟩ (setSite { s.site.record with freshness := .lost } s)))

/-- The front event of the Intake taken, where it is the change to LOST. -/
def siteLostEvent (s : State) : State :=
  match s.site.intake with
  | .wentLost _ :: rest => finish (takeSiteLost (setSiteIntake rest s))
  | _ => s

/-- SITE_LOST (R81). -/
def execSiteLost (dt : Nat) (s : State) : Host.Outcome State Fault Refusal :=
  .next (whileRunning siteLostEvent (elapse dt s))

/-! ## The interlock (R83, R84) -/

/-- The time the raw ILK level must differ from the interlock state, in µs (R83). -/
def interlockMicros : Nat := 1000

/-- The raw level that matches an interlock state. -/
def interlockLevel (x : Interlock) : Bool :=
  match x with
  | .closed => true
  | .opened => false

/-- The interlock filter after the raw level became `high`: it times a level that differs from the state, and holds
nothing otherwise (R83). -/
def filterInterlock (high : Bool) (s : State) : State :=
  setSite { s.site.record with
    filterSince := if high = interlockLevel s.site.record.interlock then none else some s.time } s

/-- ILK changes level (R83). -/
def edgeInterlock (high : Bool) (s : State) : State :=
  if s.pins.ilk = high then s
  else whileRunning (filterInterlock high) { s with pins := { s.pins with ilk := high } }

/-- INTERLOCK_LINE_EDGE (R83). -/
def execInterlockLineEdge (dt : Nat) (high : Bool) (s : State) : Host.Outcome State Fault Refusal :=
  .next (edgeInterlock high (elapse dt s))

/-- The raw level has differed from the interlock state for an unbroken 1 ms (R83). -/
def interlockDue (s : State) : Bool :=
  s.site.record.filterSince.any fun t => decide (t + interlockMicros ≤ s.time)

/-- The INTERLOCK capture record (R84). -/
def interlockCapture (s : State) : CaptureRecord :=
  { cause := .interlock, firstInput := none, arcLine := none, tripTime := siteClock s,
    siteCeiling := s.site.record.ceiling, tracker := trackerStateOf s.tracker, chainPart := none }

/-- The interlock state changed, its filter holding nothing. -/
def setInterlock (x : Interlock) (s : State) : State :=
  setSite { s.site.record with interlock := x, filterSince := none } s

/-- A qualified opening (R84). -/
def openInterlock (s : State) : State :=
  if s.site.record.interlock = .closed ∧ s.pins.ilk = false ∧ interlockDue s = true then
    finish (raiseSite (deliverAll (fun b => { b with interlock := b.interlock ++ [.opening] })
      (handRecord 4 (interlockCapture s) (setInterlock .opened s))))
  else s

/-- INTERLOCK_OPENING (R84). -/
def execInterlockOpening (dt : Nat) (s : State) : Host.Outcome State Fault Refusal :=
  .next (whileRunning openInterlock (elapse dt s))

/-- A qualified closing: no capture record (R84). -/
def closeInterlock (s : State) : State :=
  if s.site.record.interlock = .opened ∧ s.pins.ilk = true ∧ interlockDue s = true then
    finish (raiseSite (deliverAll (fun b => { b with interlock := b.interlock ++ [.closing] })
      (setInterlock .closed s)))
  else s

/-- INTERLOCK_CLOSING (R84). -/
def execInterlockClosing (dt : Nat) (s : State) : Host.Outcome State Fault Refusal :=
  .next (whileRunning closeInterlock (elapse dt s))

/-! ## Activation (R85) -/

/-- The site record under a newly active profile: nothing changes while no readings are held; else the lines and the
evaluated ceiling are formed again and X follows, under the site blind ceiling unless FRESH (R85). -/
def activateSite (p : Profile) (r : SiteRecord) : SiteRecord :=
  match r.readings with
  | none => r
  | some x =>
    let r1 := formSiteLines p x r
    { r1 with ceiling := if r.freshness = .fresh then r1.evaluated else min r1.evaluated p.siteBlind }

/-- The Site Monitor takes an activation. -/
def takeSiteActivation (p : Profile) (s : State) : State :=
  let s1 := { s with site := { s.site with profile := p } }
  let r := activateSite p s.site.record
  deliverSite ⟨changedCeiling s.site.record.ceiling r.ceiling, none, false⟩ (setSite r s1)

/-- The front activation taken. -/
def siteActivationEvent (s : State) : State :=
  match s.site.activations with
  | [] => s
  | p :: rest => takeSiteActivation p { s with site := { s.site with activations := rest } }

/-- SITE_PROFILE_ACTIVATION (R85). -/
def execSiteProfileActivation (dt : Nat) (s : State) : Host.Outcome State Fault Refusal :=
  .next (whileRunning siteActivationEvent (elapse dt s))

end Sys2Proof.Machine
end

