-- ==== Sys2Proof/Machine/TrackerEvents.lean ====
section
/-! DEFINITION. The Frame Timing Reference (chapter 7): the marker filter, acquisition, tracking, the flywheel, the
fallback ticks and activation. -/

namespace Sys2Proof.Machine

/-- The qualification and rearm time of FMK, in µs (R127). -/
def markerMicros : Nat := 1

/-- The tracker replaced. -/
def setTracker (t : Tracker) (s : State) : State := { s with tracker := t }

/-- FMK changes level and its filter moves (R127). -/
def edgeMarker (high : Bool) (s : State) : State :=
  if s.pins.fmk = high then s
  else
    whileRunning (fun t => setTracker { t.tracker with filter := filterEdge t.time high t.tracker.filter } t)
      { s with pins := { s.pins with fmk := high } }

/-- MARKER_LINE_EDGE (R127). -/
def execMarkerLineEdge (dt : Nat) (high : Bool) (s : State) : Host.Outcome State Fault Refusal :=
  .next (edgeMarker high (elapse dt s))

/-- FMK has stayed low for 1 µs after a marker: the filter accepts a new rise (R127). -/
def rearmMarker (s : State) : State :=
  if rearmDue markerMicros s.time s.tracker.filter && !s.pins.fmk then
    setTracker { s.tracker with filter := .idle } s
  else s

/-- MARKER_FILTER_REARM (R127). -/
def execMarkerFilterRearm (dt : Nat) (s : State) : Host.Outcome State Fault Refusal :=
  .next (whileRunning rearmMarker (elapse dt s))

/-! ## Markers (R129 to R133) -/

/-- A value held within Tnu − τ to Tnu + τ (R132). -/
def clampBand (tnu : Nat) (x : Int) : Nat :=
  (max ((tnu : Int) - tolerance tnu) (min ((tnu : Int) + tolerance tnu) x)).toNat

/-- An interval is good: it differs from Tnu by no more than τ (R129). -/
def goodInterval (tnu i : Nat) : Bool := decide (tnu - tolerance tnu ≤ i) && decide (i ≤ tnu + tolerance tnu)

/-- The good count a marker in SEARCH brings, from the previous marker, if one is held (R129). -/
def goodCount (tnu : Nat) (now : Word32) (previous : Option Word32) (good : Nat) : Nat :=
  match previous with
  | none => good
  | some m => if goodInterval tnu (sinceTick now m) then good + 1 else 0

/-- The good intervals in a row that acquire lock (R130). -/
def goodNeeded : Nat := 4

/-- The missed windows in a row that lose it (R134). -/
def missLimit : Nat := 8

/-- A marker in SEARCH, and whether it issues a tick: the one that completes acquisition (R129, R130). -/
def searchMarker (now : Word32) (previous : Option Word32) (good : Nat) (due : Word32) (t : Tracker) : Tracker × Bool :=
  let tnu := periodUnits t.tn
  let g := goodCount tnu now previous good
  match previous with
  | some m =>
    if g = goodNeeded then
      ({ t with mode := .locked (clampBand tnu (sinceTick now m)) 0, lastTick := now, locks := bump t.locks }, true)
    else ({ t with mode := .search (some now) g due }, false)
  | none => ({ t with mode := .search (some now) g due }, false)

/-- The period estimate after an on-time marker of interval `i`: an eighth of the difference, truncated, and clamped to
the estimate band (R132). -/
def nextEstimate (tnu pe i : Nat) : Nat := clampBand tnu ((pe : Int) + ((i : Int) - pe).tdiv 8)

/-- An interval since the last tick lies inside the window of ±W about Pe (R132). -/
def insideWindow (pe i : Nat) : Bool := decide (pe - halfWindow pe ≤ i) && decide (i ≤ pe + halfWindow pe)

/-- A marker in LOCKED, and whether it issues a tick: on time inside the window, a stray outside (R132, R133). -/
def lockedMarker (now : Word32) (pe misses : Nat) (t : Tracker) : Tracker × Bool :=
  let i := sinceTick now t.lastTick
  if insideWindow pe i then
    ({ t with mode := .locked (nextEstimate (periodUnits t.tn) pe i) 0, lastTick := now }, true)
  else ({ t with mode := .locked pe misses, strays := bump t.strays }, false)

/-- A qualified marker: counted, and taken according to the tracker state. -/
def markTracker (now : Word32) (t : Tracker) : Tracker × Bool :=
  let t1 := { t with markers := bump t.markers, filter := .held }
  match t.mode with
  | .search previous good due => searchMarker now previous good due t1
  | .locked pe misses => lockedMarker now pe misses t1

/-- A tracker's new state, and a frame tick delivered to the chains if it issues one (R135). -/
def putTracker (x : Tracker × Bool) (s : State) : State :=
  let s1 := setTracker x.1 s
  if x.2 then deliverTick s1 else s1

/-- FMK has stayed high for 1 µs: a marker qualifies and is taken. Its instant is the unit in which it qualified, 1 µs
after the rise (R127, R128). -/
def markerEvent (s : State) : State :=
  match qualifiesAt markerMicros s.time s.tracker.filter with
  | some instant =>
    if s.pins.fmk then putTracker (markTracker (trackerUnit s.tracker instant) s.tracker) s else s
  | none => s

/-- MARKER (R127). -/
def execMarker (dt : Nat) (s : State) : Host.Outcome State Fault Refusal :=
  .next (whileRunning markerEvent (elapse dt s))

/-! ## The tracker's timers (R129, R131, R134) -/

/-- A fallback tick at `now`: last tick, fallback due and the count (R131). -/
def fallbackAt (now : Word32) (previous : Option Word32) (good : Nat) (t : Tracker) : Tracker :=
  { t with
    mode := .search previous good (now + BitVec.ofNat 32 (periodUnits t.tn))
    lastTick := now
    fallbacks := bump t.fallbacks }

/-- In SEARCH the tracker time reaches fallback due. -/
def fallbackEvent (s : State) : State :=
  match s.tracker.mode with
  | .search previous good due =>
    if reached (trackerTime s) due then
      putTracker (fallbackAt (trackerTime s) previous good s.tracker, true) s
    else s
  | .locked _ _ => s

/-- FALLBACK_TICK (R131). -/
def execFallbackTick (dt : Nat) (s : State) : Host.Outcome State Fault Refusal :=
  .next (whileRunning fallbackEvent (elapse dt s))

/-- A previous marker 2 × Tnu old is dropped and the good count returns to 0 (R129). -/
def dropPrevious (s : State) : State :=
  match s.tracker.mode with
  | .search (some m) _ due =>
    if 2 * periodUnits s.tracker.tn ≤ sinceTick (trackerTime s) m then
      setTracker { s.tracker with mode := .search none 0 due } s
    else s
  | _ => s

/-- PREVIOUS_MARKER_DROP (R129). -/
def execPreviousMarkerDrop (dt : Nat) (s : State) : Host.Outcome State Fault Refusal :=
  .next (whileRunning dropPrevious (elapse dt s))

/-- The tracker after a missed window: last tick is the expected instant, the miss and virtual tick counts rise, and the
eighth miss in a row returns it to SEARCH (R134). -/
def missWindow (pe misses : Nat) (t : Tracker) : Tracker :=
  let expected := t.lastTick + BitVec.ofNat 32 pe
  let t1 := { t with lastTick := expected, virtuals := bump t.virtuals }
  if misses + 1 < missLimit then { t1 with mode := .locked pe (misses + 1) }
  else
    { t1 with
      mode := .search none 0 (expected + BitVec.ofNat 32 (periodUnits t.tn))
      losses := bump t.losses }

/-- In LOCKED the window closes with no on-time marker: a virtual tick is issued. -/
def windowEvent (s : State) : State :=
  match s.tracker.mode with
  | .locked pe misses =>
    if pe + halfWindow pe + 1 ≤ sinceTick (trackerTime s) s.tracker.lastTick then
      putTracker (missWindow pe misses s.tracker, true) s
    else s
  | .search _ _ _ => s

/-- WINDOW_CLOSE (R134). -/
def execWindowClose (dt : Nat) (s : State) : Host.Outcome State Fault Refusal :=
  .next (whileRunning windowEvent (elapse dt s))

/-! ## Activation (R136) -/

/-- The tracker under a new Tn: SEARCH with good count 0, no previous marker and last tick kept; where the new fallback
due has already passed, the first fallback tick is issued at the activation. -/
def retune (now : Word32) (tn : Nat) (t : Tracker) : Tracker × Bool :=
  let t1 := { t with tn := tn, mode := .search none 0 (t.lastTick + BitVec.ofNat 32 (periodUnits tn)) }
  if periodUnits tn < sinceTick now t.lastTick then (fallbackAt now none 0 t1, true) else (t1, false)

/-- The Frame Timing Reference takes an activation. -/
def trackerActivationEvent (s : State) : State :=
  match s.tracker.activations with
  | [] => s
  | p :: rest =>
    let t := { s.tracker with activations := rest }
    if p.tn = t.tn then setTracker t s else putTracker (retune (trackerTime s) p.tn t) s

/-- TRACKER_PROFILE_ACTIVATION (R136). -/
def execTrackerProfileActivation (dt : Nat) (s : State) : Host.Outcome State Fault Refusal :=
  .next (whileRunning trackerActivationEvent (elapse dt s))

end Sys2Proof.Machine
end

