-- ==== Sys2Proof/Machine/Dispatch.lean ====
section
/-! DEFINITION. One arm per command, each a direct call of its meaning. -/

namespace Sys2Proof.Machine

def exec (i : Instr) (s : State) : Host.Outcome State Fault Refusal :=
  match i with
  | .powerOnReset dt bsel1 bsel0 => Sys2Proof.Machine.execPowerOnReset dt bsel1 bsel0 s
  | .warmReset dt cause => Sys2Proof.Machine.execWarmReset dt cause s
  | .startUpEnd dt => Sys2Proof.Machine.execStartUpEnd dt s
  | .sampleFrame dt header fields check => Sys2Proof.Machine.execSampleFrame dt header fields check s
  | .groupDiscard dt header => Sys2Proof.Machine.execGroupDiscard dt header s
  | .shortFrameSync x => Sys2Proof.Machine.execShortFrameSync x s
  | .shortFrameTimeout x => Sys2Proof.Machine.execShortFrameTimeout x s
  | .staleDeadline dt g => Sys2Proof.Machine.execStaleDeadline dt g s
  | .lostDeadline dt g => Sys2Proof.Machine.execLostDeadline dt g s
  | .flowLineEdge dt c high => Sys2Proof.Machine.execFlowLineEdge dt c high s
  | .flowPulseQualify dt c => Sys2Proof.Machine.execFlowPulseQualify dt c s
  | .flowFilterRearm dt c => Sys2Proof.Machine.execFlowFilterRearm dt c s
  | .gateEnd dt => Sys2Proof.Machine.execGateEnd dt s
  | .flowGateResult dt c => Sys2Proof.Machine.execFlowGateResult dt c s
  | .chainEvaluation dt c => Sys2Proof.Machine.execChainEvaluation dt c s
  | .chainFreshnessChange dt c => Sys2Proof.Machine.execChainFreshnessChange dt c s
  | .siteEvaluation dt => Sys2Proof.Machine.execSiteEvaluation dt s
  | .siteStale dt => Sys2Proof.Machine.execSiteStale dt s
  | .siteLost dt => Sys2Proof.Machine.execSiteLost dt s
  | .siteCeilingChange dt c => Sys2Proof.Machine.execSiteCeilingChange dt c s
  | .siteTripEvent dt c => Sys2Proof.Machine.execSiteTripEvent dt c s
  | .siteFreshnessLoss dt c => Sys2Proof.Machine.execSiteFreshnessLoss dt c s
  | .interlockLineEdge dt high => Sys2Proof.Machine.execInterlockLineEdge dt high s
  | .interlockOpening dt => Sys2Proof.Machine.execInterlockOpening dt s
  | .interlockClosing dt => Sys2Proof.Machine.execInterlockClosing dt s
  | .chainInterlockOpening dt c => Sys2Proof.Machine.execChainInterlockOpening dt c s
  | .chainInterlockClosing dt c => Sys2Proof.Machine.execChainInterlockClosing dt c s
  | .fastLineEdge dt line high => Sys2Proof.Machine.execFastLineEdge dt line high s
  | .fastLineQualify dt line => Sys2Proof.Machine.execFastLineQualify dt line s
  | .fastFilterRearm dt line => Sys2Proof.Machine.execFastFilterRearm dt line s
  | .qualifiedArcPulse dt c => Sys2Proof.Machine.execQualifiedArcPulse dt c s
  | .qualifiedSurge dt c => Sys2Proof.Machine.execQualifiedSurge dt c s
  | .windowExpiry dt c => Sys2Proof.Machine.execWindowExpiry dt c s
  | .dwellEnd dt c => Sys2Proof.Machine.execDwellEnd dt c s
  | .tripListEntryExpiry dt c => Sys2Proof.Machine.execTripListEntryExpiry dt c s
  | .runOnExpiry dt c => Sys2Proof.Machine.execRunOnExpiry dt c s
  | .chainFrameTick dt c => Sys2Proof.Machine.execChainFrameTick dt c s
  | .captureRecordJoin dt => Sys2Proof.Machine.execCaptureRecordJoin dt s
  | .markerLineEdge dt high => Sys2Proof.Machine.execMarkerLineEdge dt high s
  | .markerFilterRearm dt => Sys2Proof.Machine.execMarkerFilterRearm dt s
  | .marker dt => Sys2Proof.Machine.execMarker dt s
  | .fallbackTick dt => Sys2Proof.Machine.execFallbackTick dt s
  | .previousMarkerDrop dt => Sys2Proof.Machine.execPreviousMarkerDrop dt s
  | .windowClose dt => Sys2Proof.Machine.execWindowClose dt s
  | .levelTransferComplete dt => Sys2Proof.Machine.execLevelTransferComplete dt s
  | .chainProfileActivation dt c => Sys2Proof.Machine.execChainProfileActivation dt c s
  | .siteProfileActivation dt => Sys2Proof.Machine.execSiteProfileActivation dt s
  | .trackerProfileActivation dt => Sys2Proof.Machine.execTrackerProfileActivation dt s
  | .fastMuteProfileActivation dt => Sys2Proof.Machine.execFastMuteProfileActivation dt s
  | .loadTimeout dt => Sys2Proof.Machine.execLoadTimeout dt s
  | .lockoutRecordWriteComplete dt => Sys2Proof.Machine.execLockoutRecordWriteComplete dt s
  | .directoryWriteComplete dt => Sys2Proof.Machine.execDirectoryWriteComplete dt s
  | .slotWriteComplete dt => Sys2Proof.Machine.execSlotWriteComplete dt s
  | .framingError x => Sys2Proof.Machine.execFramingError x s
  | .controlFrameDiscard x => Sys2Proof.Machine.execControlFrameDiscard x s
  | .controlFrameGapTimeout x => Sys2Proof.Machine.execControlFrameGapTimeout x s
  | .unknownKind dt head body crc => Sys2Proof.Machine.execUnknownKind dt head body crc s
  | .overlapFrame dt head body crc => Sys2Proof.Machine.execOverlapFrame dt head body crc s
  | .identify dt inner crc => Sys2Proof.Machine.execIdentify dt inner crc s
  | .readChain dt inner crc => Sys2Proof.Machine.execReadChain dt inner crc s
  | .readSite dt inner crc => Sys2Proof.Machine.execReadSite dt inner crc s
  | .readTiming dt inner crc => Sys2Proof.Machine.execReadTiming dt inner crc s
  | .readTrips dt inner crc => Sys2Proof.Machine.execReadTrips dt inner crc s
  | .readCapture dt inner crc => Sys2Proof.Machine.execReadCapture dt inner crc s
  | .readStore dt inner crc => Sys2Proof.Machine.execReadStore dt inner crc s
  | .setLevel dt inner crc => Sys2Proof.Machine.execSetLevel dt inner crc s
  | .chainOn dt inner crc => Sys2Proof.Machine.execChainOn dt inner crc s
  | .chainOff dt inner crc => Sys2Proof.Machine.execChainOff dt inner crc s
  | .clearLockout dt inner crc => Sys2Proof.Machine.execClearLockout dt inner crc s
  | .releaseCapture dt inner crc => Sys2Proof.Machine.execReleaseCapture dt inner crc s
  | .loadBegin dt inner crc => Sys2Proof.Machine.execLoadBegin dt inner crc s
  | .loadSegment dt inner crc => Sys2Proof.Machine.execLoadSegment dt inner crc s
  | .loadEnd dt inner crc => Sys2Proof.Machine.execLoadEnd dt inner crc s
  | .loadCancel dt inner crc => Sys2Proof.Machine.execLoadCancel dt inner crc s
  | .activate dt inner crc => Sys2Proof.Machine.execActivate dt inner crc s
  | .setNotices dt inner crc => Sys2Proof.Machine.execSetNotices dt inner crc s
  | .reset dt inner crc => Sys2Proof.Machine.execReset dt inner crc s
  | .transmitComplete dt => Sys2Proof.Machine.execTransmitComplete dt s
  | .syncWordMatch x => Sys2Proof.Machine.execSyncWordMatch x s
  | .controlStartByte x => Sys2Proof.Machine.execControlStartByte x s
  | .supplyBelowThreshold dt => Sys2Proof.Machine.execSupplyBelowThreshold dt s
  | .rstNRise dt => Sys2Proof.Machine.execRstNRise dt s

end Sys2Proof.Machine
end

