-- ==== Sys2Proof/Safety.lean ====
section
/-! DEFINITION. What claims about the machine are stated in: what a command leaves as it was, and the invariants that
every step keeps. -/

namespace Sys2Proof.Machine

/-! ## Frames: what a command leaves as it was -/

/-- The chain is in LOCKOUT. -/
def inLockout (r : ChainRecord) : Bool := decide (modeState r.mode = .lockout)

/-- The alarm reasons after chain `c`'s record became `r`: CHAIN_LOCKOUT names the chains in LOCKOUT (R149). -/
def alarmsAfter (c : ChainNo) (r : ChainRecord) (s : State) : AlarmReasons :=
  if inLockout r = inLockout (recordOf s c) then s.alarms
  else { s.alarms with lockoutChains := s.alarms.lockoutChains.set c (inLockout r) }

/-- The level bus after chain `c`'s record became `r`: a changed A is handed over (R140). -/
def busAfter (c : ChainNo) (r : ChainRecord) (now : Nat) (s : State) : LevelBus :=
  if r.applied = (recordOf s c).applied then s.levelBus else handOffBus now c r.applied s.levelBus

/-- The NV Controller `n` after it starts a write if none is in progress: the first pending kind in the order lockout
record, directory, slot, the latches and the directory content taken as they stand (R118, R160, R161). -/
def startedNv (now : Nat) (latches : Quad Bool) (directory : Designation) (n : NvController) : NvController :=
  match n.inProgress with
  | some _ => n
  | none =>
    if n.lockoutPending then { n with lockoutPending := false, inProgress := some ⟨.lockout latches, now⟩ }
    else if n.directoryPending then { n with directoryPending := false, inProgress := some ⟨.directory directory, now⟩ }
    else
      match n.slotPending with
      | some w => { n with slotPending := none, inProgress := some ⟨.slot w, now⟩ }
      | none => n

/-- An event at chain `c`, taken `dt` after `s`, made `t` and changed the chain's Supervisor to `x`; what follows from
the change followed, and nothing else but the Control Link changed: a changed latch requests a lockout record write (R1,
R16, R118, R140, R145, R147, R149). `captures` are the capture records waiting to join the queue. -/
structure ChainFrame (dt : Nat) (c : ChainNo) (x : Chain) (captures : List HandedRecord) (s t : State) : Prop where
  chain    : t.chains.get c = x
  others   : ∀ d, d ≠ c → t.chains.get d = s.chains.get d
  bus      : t.levelBus = busAfter c x.record (s.time + dt) s
  alarms   : t.alarms = alarmsAfter c x.record s
  nv       : t.nv = if x.record.latch = (recordOf s c).latch then s.nv
    else startedNv (s.time + dt) (latchesOf t) s.store.directory { s.nv with lockoutPending := true }
  captured : t.capture = { s.capture with handed := captures }
  lines    : t.lines = linesOf t
  rest     : t = { s with time := s.time + dt, chains := t.chains, levelBus := t.levelBus, alarms := t.alarms,
                          nv := t.nv, capture := t.capture, lines := t.lines, link := t.link }

/-! ## The notice flags and the transmit line -/

/-- The pending flags after changes at the sources named, taken at `now`: each flag is raised if its source is enabled, and
one already raised stays raised, since the instant it was (R169). -/
def raisedFlags (chain : Option ChainNo) (site capture : Bool) (now : Nat) (l : ControlLink) : NoticeFlags :=
  { chains := Quad.ofFn fun c =>
      if l.noticeMask.chains.get c && decide (chain = some c) then some ((l.noticePending.chains.get c).getD now)
      else l.noticePending.chains.get c
    site := if l.noticeMask.site && site then some (l.noticePending.site.getD now) else l.noticePending.site
    capture := if l.noticeMask.capture && capture then some (l.noticePending.capture.getD now)
      else l.noticePending.capture }

/-- The Control Link of a running part `t` that held `l` when the transmit line was looked at: a message on the line stays
there; a free line starts the overlap slot's BUSY refusal once it is a waiting reply, else the reply to the request in
hand, else the notice of the first source pending in the order chains 0 to 3, site, capture, with the source's state as it
stands and its flag removed; else it stays idle (R170, R171). -/
def servedLink (l : ControlLink) (t : State) : ControlLink :=
  let flags := l.noticePending
  if l.transmitting ≠ none then l
  else
    match l.overlap.filter (·.ready), l.reply,
        [0, 1, 2, 3].findSome? fun c => (flags.chains.get c).map fun since => (c, since) with
    | some o, _, _ => { l with transmitting := some ⟨.busy, ⟨0xFE, o.tag, [o.kind, 0x06]⟩, t.time⟩ }
    | none, some m, _ => { l with reply := none, transmitting := some ⟨.reply, m, t.time⟩ }
    | none, none, some (c, since) =>
      { l with
        noticePending := { flags with chains := flags.chains.set c none }
        transmitting := some ⟨.notice (.chain c) since, chainNotice t c, t.time⟩ }
    | none, none, none =>
      match flags.site, flags.capture with
      | some since, _ =>
        { l with
          noticePending := { flags with site := none }
          transmitting := some ⟨.notice .site since, siteNotice t, t.time⟩ }
      | none, some since =>
        { l with
          noticePending := { flags with capture := none }
          transmitting := some ⟨.notice .capture since, captureNotice t, t.time⟩ }
      | none, none => l

/-- The pending flags after an event at chain `c` that took `s` to `t`: CHAIN_NOTICE for a change of the chain's state or
limiter, and for nothing else of the chain, SITE_NOTICE for a change of the alarm reasons (R59, R150, R169). -/
def chainFlags (c : ChainNo) (s t : State) : NoticeFlags :=
  raisedFlags
    (if modeState (recordOf t c).mode = modeState (recordOf s c).mode ∧ (recordOf t c).limiter = (recordOf s c).limiter
      then none else some c)
    (decide (t.alarms ≠ s.alarms)) false t.time s.link

/-- After an event at chain `c` the Control Link is as it was but for the flags the event raised and the message a free
line then started (R59, R169, R171). -/
def ChainNotices (c : ChainNo) (s t : State) : Prop :=
  t.link = servedLink { s.link with noticePending := chainFlags c s t } t

/-- A request was taken: it is in hand, its reply was produced, the pending flags became `flags`, and a free line started
the message it then chose (R166, R168, R171). -/
def RequestTaken (kind tag : Byte) (m : Message) (flags : NoticeFlags) (s t : State) : Prop :=
  t.link = servedLink
    { s.link with receiver := .hunting, inHand := some ⟨kind, tag⟩, reply := some m, noticePending := flags } t

/-- A request was taken and its reply is held back: it is in hand, and a free line started what already waited (R158,
R166, R171). -/
def RequestHeld (kind tag : Byte) (s t : State) : Prop :=
  t.link = servedLink { s.link with receiver := .hunting, inHand := some ⟨kind, tag⟩ } t

/-- The Control Link can take a request: the part runs, a frame is being received and nothing is in hand (R166). -/
structure CanTake (s : State) : Prop where
  running  : s.phase = .running
  received : inLinkFrame s = true
  free     : s.link.inHand = none

/-- Only the time, the Control Link and the output lines differ, and the lines are as the state gives them. -/
structure LinkFrame (dt : Nat) (s t : State) : Prop where
  rest  : t = { s with time := s.time + dt, lines := t.lines, link := t.link }
  lines : t.lines = linesOf t

/-- Every chain's Supervisor is the same but for its inbox. -/
def InboxesOnly (f : ChainNo → ChainInbox → ChainInbox) (s t : State) : Prop :=
  ∀ c, t.chains.get c = { s.chains.get c with inbox := f c (inboxOf s c) }

/-- The site deliveries that wait for a chain after one more event delivered `x`: nothing joins where it delivered nothing
(R76, R82). -/
def siteJoined (x : SiteDelivery) (l : List SiteDelivery) : List SiteDelivery :=
  if x = ⟨none, none, false⟩ then l else l ++ [x]

/-- The site deliveries that wait for a chain after it took a part of the front one and left `x` of it: the front one goes
with its last part (R79, R82). -/
def siteLeft (x : SiteDelivery) (rest : List SiteDelivery) : List SiteDelivery :=
  if x = ⟨none, none, false⟩ then rest else x :: rest

/-- The Site Monitor became `x`, each chain's inbox changed by `f`, the alarm reasons are `a`, the capture records waiting
to join `captures`, and the SITE_NOTICE flag was raised where `raised` says so; nothing else but the time, the lines and
the message a free line started changed (R72, R80, R81, R84, R87). -/
structure SiteFrame (dt : Nat) (x : SiteMonitor) (f : ChainInbox → ChainInbox) (a : AlarmReasons)
    (captures : List HandedRecord) (raised : Bool) (s t : State) : Prop where
  site     : t.site = x
  inboxes  : InboxesOnly (fun _ => f) s t
  alarms   : t.alarms = a
  captured : t.capture = { s.capture with handed := captures }
  lines    : t.lines = linesOf t
  link     : t.link = servedLink { s.link with noticePending := raisedFlags none raised false t.time s.link } t
  rest     : t = { s with time := s.time + dt, site := t.site, chains := t.chains, alarms := t.alarms,
                          capture := t.capture, lines := t.lines, link := t.link }

/-- A write has come to its end: the array became `a`, and only the NV Controller, the alarm reasons, the Profile Store,
the lines and the Control Link may have changed beside (R161). -/
structure WriteFrame (dt : Nat) (a : NvArray) (s t : State) : Prop where
  array : t.array = a
  lines : t.lines = linesOf t
  rest  : t = { s with time := s.time + dt, nv := t.nv, array := t.array, alarms := t.alarms, store := t.store,
                       lines := t.lines, link := t.link }

/-- The NV Controller, its write over, starts the first pending kind in the order lockout record, directory, slot, taking
what that write carries as it stands (R161). -/
def NextWriteStarts (s t : State) : Prop :=
  t.nv = startedNv t.time (latchesOf t) t.store.directory { s.nv with inProgress := none }

/-- What a reset keeps, the lines it asserts, and the level bus's two lines, idle (R144, R145, R148, R150, R161, R163). -/
structure ResetFrame (s t : State) : Prop where
  bus     : ∀ k, busLines t k = ⟨true, false⟩
  lines   : t.lines = assertedLines
  array   : t.array = tearWrite s.nv s.array
  nv      : t.nv = idleNv
  handed  : t.capture.handed = []
  pending : t.pending = s.pending

/-! ## What the rules of a chain say of its record -/

/-- `r'` is `r`, whose components have changed, composed again: P is the least of the six components, the limiter the
first that equals it; in RAMP and ACTIVE a P below A brings A down to it, and a chain in RAMP whose A is then P enters
ACTIVE; in every other state A and the state stay (R57, R58, R64). -/
structure RecomposedTo (r r' : ChainRecord) : Prop where
  rest      : r' = { r with permitted := r'.permitted, limiter := r'.limiter, applied := r'.applied, mode := r'.mode }
  permitted : r'.permitted =
    min r.setPoint (min r.cap (min r.mismatch (min r.thermal (min r.site r.blind))))
  limiter   : r'.limiter = firstLimiter r r'.permitted
  applied   : r'.applied = if (runState r.mode).isSome then min r.applied r'.permitted else r.applied
  mode      : r'.mode = if r.mode = .ramp ∧ r'.permitted ≤ r.applied then .active else r.mode

/-- `r'` is `r` after steps 1 to 6 of an evaluation that brings readings `x` under profile `p` (R60): a return makes the
group FRESH with B 1000; the readings are replaced; R is formed or removed, M is formed from it; the band is updated and
Θ formed from it; P and the limiter are composed. -/
structure EvaluatedTo (p : Profile) (x : ChainReadings) (returned : Bool) (r r' : ChainRecord) : Prop where
  rest      : r' = { r with
    freshness := r'.freshness, blind := r'.blind, readings := r'.readings, ratio := r'.ratio
    mismatch := r'.mismatch, band := r'.band, thermal := r'.thermal, permitted := r'.permitted
    limiter := r'.limiter }
  freshness : r'.freshness = if returned then .fresh else r.freshness
  blind     : r'.blind = if returned then 1000 else r.blind
  readings  : r'.readings = some x
  ratio     : r'.ratio = if p.fmin ≤ x.forward then some (min 1000 (1000 * x.reflected / x.forward)) else none
  mismatch  : ∀ v, r'.ratio = some v → r'.mismatch = foldback v p.rs p.rt p.mf
  noRatio   : r'.ratio = none → r'.mismatch = 1000
  band      : r'.band = bandUpdate p r.band x.tout
  thermal   : r'.thermal = thermalCeiling p r'.band (some x.tout)
  permitted : r'.permitted =
    min r.setPoint (min r.cap (min r'.mismatch (min r'.thermal (min r.site r'.blind))))
  limiter   : r'.limiter = firstLimiter r' r'.permitted

/-- The record of a chain that entered HOLDOFF at `now`: A is 0, and the cause's dwell runs from there (R107, R109). -/
def trippedRecord (cause : TripCause) (lengths : DwellLengths) (now : Nat) (trips : List TripEntry) (r : ChainRecord) :
    ChainRecord :=
  { r with mode := .holdoff cause ⟨lengths, now, lengths.ticks⟩, applied := 0, tripList := trips }

/-- The capture record of a slow trip, from the record `r` the event left and the A it found (R62, R108). -/
def slowTripCapture (c : ChainNo) (cause : TripCause) (tripTime : Word32) (run : RunState) (applied sum : Nat)
    (tracker : TrackerState) (r : ChainRecord) : CaptureRecord :=
  { cause := cause, firstInput := none, arcLine := none, tripTime := tripTime, siteCeiling := r.site
    tracker := tracker
    chainPart := some
      { chain := c, stateAtTrip := run, applied := applied, permitted := r.permitted, limiter := r.limiter
        readings := r.readings, ratio := r.ratio, band := r.band, flowRate := r.flowRate, weightSum := sum } }

/-- The records handed to the Capture Queue after chain `c` handed `x` over at `now` (R122). -/
def handedBy (c : ChainNo) (now : Nat) (x : CaptureRecord) (s : State) : List HandedRecord :=
  placeRecord ⟨⟨c.val, by omega⟩, now, x⟩ s.capture.handed

/-- The capture record of a fast trip, from the held snapshot, the final cause and the weight sum after the entry
(R99). -/
def fastTripCapture (c : ChainNo) (cause : TripCause) (sum : Nat) (x : Snapshot) : CaptureRecord :=
  { cause := cause, firstInput := some x.firstInput, arcLine := x.arcLine, tripTime := x.tripTime
    siteCeiling := x.siteCeiling, tracker := x.tracker
    chainPart := some
      { chain := c, stateAtTrip := x.stateAtTrip, applied := x.applied, permitted := x.permitted
        limiter := x.limiter, readings := x.readings, ratio := x.ratio, band := x.band, flowRate := x.flowRate
        weightSum := sum } }

/-- The record of a chain in RAMP or ACTIVE that a first pulse muted: A is 0, the snapshot holds the chain as it stood,
and the window runs from the qualification instant (R93, R94, R95). -/
def mutedRecord (cause : TripCause) (input : FirstInput) (line : Option (Fin 8)) (run : RunState) (window : Nat)
    (x : PulseStamp) (r : ChainRecord) : ChainRecord :=
  { r with
    mode := .classify cause
      { tripTime := x.clock, stateAtTrip := run, applied := r.applied, permitted := r.permitted
        limiter := r.limiter, readings := r.readings, ratio := r.ratio, band := r.band, flowRate := r.flowRate
        siteCeiling := r.site, tracker := x.tracker, firstInput := input, arcLine := line }
      (x.instant + window)
    applied := 0 }

/-- `set` is exactly the checks of Table 1-4 that fail for chain `c`, with the Tout it holds and its latch as given; with
no Tout held TEMP fails (R9, R10). -/
structure FailingSet (s : State) (c : ChainNo) (tout : Option Int) (latch : Bool) (set : List Check) : Prop where
  chainFresh : .chainFresh ∈ set ↔ (s.intake.chainGroup.get c).freshness ≠ .fresh
  siteFresh  : .siteFresh ∈ set ↔ s.intake.siteGroup.freshness ≠ .fresh
  temp       : .temp ∈ set ↔ ∀ t, tout = some t → (profileOf s c).trestart ≤ t
  flow       : .flow ∈ set ↔ (recordOf s c).flowRate < (profileOf s c).flowMin
  arcClear   : .arcClear ∈ set ↔ ∃ k, s.pins.arcs.get k = true ∧ inSet ((profileOf s c).arcMap.get k) c = true
  surgeClear : .surgeClear ∈ set ↔ s.pins.surges.get c = true
  interlock  : .interlock ∈ set ↔ s.site.record.interlock ≠ .closed
  siteOk     : .siteOk ∈ set ↔ s.site.record.feederTrip = true ∨ s.site.record.rejectTrip = true
  latch      : .latch ∈ set ↔ latch = true

/-- A chain's dwell is over: the lockout decision puts it in LOCKOUT with its latch set if the sum of the entries still
within the trip window is at or above L, and in QUALIFY with the checks that fail otherwise (R10, R111). -/
structure LockoutDecided (s : State) (c : ChainNo) (now : Word32) (r r' : ChainRecord) : Prop where
  list   : r'.tripList = r.tripList.filter fun e => decide ((now - e.tripTime).toNat < (profileOf s c).tripWindow * 1000)
  locked : (profileOf s c).lockoutLimit ≤ weightSum r'.tripList → r'.mode = .lockout ∧ r'.latch = true
  freed  : weightSum r'.tripList < (profileOf s c).lockoutLimit →
    (∃ set, r'.mode = .qualify set ∧ FailingSet s c (r.readings.map (·.tout)) r.latch set) ∧ r'.latch = r.latch
  rest   : r' = { r with mode := r'.mode, tripList := r'.tripList, latch := r'.latch, applied := 0 }

/-- `r'` is the site record `r` with its lines formed from readings `x` under profile `p`: the feeder ratio and line, the
reject line, the low-pressure flag, the pressure cap and their least (R73 to R76). -/
structure SiteLinesFormed (p : Profile) (x : SiteReadings) (r r' : SiteRecord) : Prop where
  readings  : r'.readings = some x
  ratio     : r'.ratio = if p.fminSite ≤ x.forward then some (min 1000 (1000 * x.reflected / x.forward)) else none
  feeder    : ∀ v, r'.ratio = some v → r'.feederLine = foldback v p.rsSite p.rtSite p.mfSite
  noRatio   : r'.ratio = none → r'.feederLine = 1000
  reject    : r'.rejectLine = foldback x.trej p.jstart p.jtrip p.jfloor
  pressure  : r'.lowPressure = decide (x.pgas < p.pmin)
    ∧ r'.pressureCap = if x.pgas < p.pmin then p.lowPressureCeiling else 1000
  evaluated : r'.evaluated = min r'.feederLine (min r'.rejectLine r'.pressureCap)
  interlock : r'.interlock = r.interlock ∧ r'.filterSince = r.filterSince

/-- A qualify-failure set gained a name, and nothing else (R12). -/
def SetGains (k : Check) (set set' : List Check) : Prop := ∀ j, j ∈ set' ↔ j = k ∨ j ∈ set

/-- Every check of Table 1-4 passes for chain `c` with the Tout `tout` (R9). -/
structure ChecksPass (s : State) (c : ChainNo) (tout : Int) : Prop where
  chainFresh : (s.intake.chainGroup.get c).freshness = .fresh
  siteFresh  : s.intake.siteGroup.freshness = .fresh
  temp       : tout < (profileOf s c).trestart
  flow       : (profileOf s c).flowMin ≤ (recordOf s c).flowRate
  arcClear   : ∀ k, s.pins.arcs.get k = true → inSet ((profileOf s c).arcMap.get k) c = false
  surgeClear : s.pins.surges.get c = false
  interlock  : s.site.record.interlock = .closed
  siteOk     : s.site.record.feederTrip = false ∧ s.site.record.rejectTrip = false
  latch      : (recordOf s c).latch = false

/-! ## What the rules of the links and the stored records say -/

/-- The commands of the 19 requests, each with its kind and the length of its body (Table 10-2). -/
def requestTable : List ((Nat → List Byte → List Byte → Instr) × Byte × Nat) :=
  [(.identify, 0x01, 0), (.readChain, 0x02, 1), (.readSite, 0x03, 0), (.readTiming, 0x04, 0), (.readTrips, 0x05, 1),
   (.readCapture, 0x06, 0), (.readStore, 0x07, 0), (.setLevel, 0x10, 3), (.chainOn, 0x11, 1), (.chainOff, 0x12, 1),
   (.clearLockout, 0x13, 1), (.releaseCapture, 0x14, 2), (.loadBegin, 0x20, 1), (.loadSegment, 0x21, 33),
   (.loadEnd, 0x22, 0), (.loadCancel, 0x23, 0), (.activate, 0x24, 2), (.setNotices, 0x30, 1), (.reset, 0x3F, 0)]

/-- The requests whose first byte names a chain (Table 10-2). -/
def chainRequestTable : List ((Nat → List Byte → List Byte → Instr) × Byte × Nat) :=
  [(.readChain, 0x02, 1), (.readTrips, 0x05, 1), (.setLevel, 0x10, 3), (.chainOn, 0x11, 1), (.chainOff, 0x12, 1),
   (.clearLockout, 0x13, 1)]

/-- The command of a request whose frame carries message `m` (Table 10-1). -/
def requestOf (command : Nat → List Byte → List Byte → Instr) (dt : Nat) (m : Message) : Instr :=
  command dt (frameInner m) (frameCrc m)

/-- The bytes of a field that may be absent: it keeps its width, filled with zeros (R167). -/
def optBytes {α : Type} (width : Nat) (enc : α → List Byte) (x : Option α) : List Byte :=
  match x with
  | some a => enc a
  | none => List.replicate width 0x00

/-- The joining order of two records handed over: by their instants and, at one instant, chains 0 to 3 before the Site
Monitor (R122). -/
def joinsBefore (x y : HandedRecord) : Prop := x.at_ < y.at_ ∨ x.at_ = y.at_ ∧ x.source ≤ y.source

/-- The form of a field of a profile image: one byte or two, unsigned or two's complement (section 9.1.1). -/
inductive FieldForm
  | byte | word | signed
  deriving DecidableEq, Repr

/-- A field's value in an image. -/
def fieldValue (img : List Byte) (offset : Nat) (form : FieldForm) : Int :=
  match form with
  | .byte => (byteAt img offset).toNat
  | .word => 256 * (byteAt img offset).toNat + (byteAt img (offset + 1)).toNat
  | .signed =>
    if (byteAt img offset).toNat < 128 then 256 * (byteAt img offset).toNat + (byteAt img (offset + 1)).toNat
    else 256 * (byteAt img offset).toNat + (byteAt img (offset + 1)).toNat - 65536

/-- Fields 2 to 35 of Table 9-1: number, offset, form and range. -/
def fieldRowsLow : List (Nat × Nat × FieldForm × Int × Int) :=
  [(2, 12, .word, 0, 65535), (3, 14, .word, 1, 20000), (4, 16, .word, 0, 999), (5, 18, .word, 1, 1000),
   (6, 20, .word, 0, 1000), (7, 22, .word, 0, 20000), (8, 24, .signed, -400, 1250), (9, 26, .signed, -400, 1250),
   (10, 28, .signed, -400, 1250), (11, 30, .byte, 1, 50), (12, 31, .word, 0, 1000), (13, 33, .word, 0, 1000),
   (14, 35, .word, 0, 1000), (15, 37, .word, 0, 1000), (16, 39, .byte, 0, 200), (17, 40, .byte, 0, 200),
   (18, 41, .byte, 0, 200), (19, 42, .signed, -400, 1250), (20, 44, .signed, -400, 1250), (21, 46, .word, 0, 2000),
   (22, 48, .byte, 1, 40), (23, 49, .word, 1, 60000), (24, 51, .word, 0, 999), (25, 53, .word, 1, 1000),
   (26, 55, .word, 0, 1000), (27, 57, .signed, -400, 1250), (28, 59, .signed, -400, 1250), (29, 61, .word, 0, 1000),
   (30, 63, .word, 0, 2000), (31, 65, .word, 0, 1000), (32, 67, .word, 1, 10000), (33, 69, .word, 1, 10000),
   (34, 71, .word, 0, 1000), (35, 73, .word, 0, 1000)]

/-- Fields 36 to 72 of Table 9-1: number, offset, form and range. -/
def fieldRowsHigh : List (Nat × Nat × FieldForm × Int × Int) :=
  ((List.range 6).map fun k => (36 + 2 * k, 75 + 3 * k, FieldForm.word, (1 : Int), (6000 : Int)))
    ++ ((List.range 6).map fun k => (37 + 2 * k, 77 + 3 * k, FieldForm.byte, (0 : Int), (255 : Int)))
    ++ [(48, 93, .word, 10, 3600), (49, 95, .byte, 1, 8), (50, 96, .word, 0, 1000), (51, 98, .word, 1, 1000),
        (52, 100, .word, 1, 1000)]
    ++ ((List.range 4).map fun c => (53 + c, 102 + 2 * c, FieldForm.word, (0 : Int), (1000 : Int)))
    ++ ((List.range 4).map fun c => (57 + c, 110 + 2 * c, FieldForm.word, (0 : Int), (1000 : Int)))
    ++ ((List.range 8).map fun k => (61 + k, 118 + k, FieldForm.byte, (0 : Int), (15 : Int)))
    ++ [(69, 126, .word, 10, 5000), (70, 128, .word, 10, 10000), (71, 130, .byte, 0, 15), (72, 131, .word, 0, 600)]

/-- The relations charged to a field hold in an image (Table 9-2). -/
def relationsHold (img : List Byte) (n : Nat) : Prop :=
  let word (k : Nat) : Int := fieldValue img k .word
  let temp (k : Nat) : Int := fieldValue img k .signed
  let h : Int := fieldValue img 30 .byte
  match n with
  | 5 => word 16 < word 18
  | 11 => temp 24 + h < temp 26 ∧ temp 26 + h < temp 28
  | 19 => temp 28 + h ≤ temp 42
  | 20 => temp 44 < temp 42
  | 25 => word 51 < word 53
  | 28 => temp 57 < temp 59
  | 33 => word 67 < word 69
  | _ => True

/-- Field `n` of an image passes its tests: the name's characters are printable, the fill is zeros, and any other field
lies in its range and keeps the relations charged to it (R152, Tables 9-1 and 9-2). -/
def FieldPasses (img : List Byte) (n : Nat) : Prop :=
  match n with
  | 1 => ∀ k, k < 12 → 0x20 ≤ (byteAt img k).toNat ∧ (byteAt img k).toNat ≤ 0x7E
  | 73 => ∀ k, 133 ≤ k → k < 254 → byteAt img k = 0x00
  | n =>
    (∀ offset form lo hi, (n, offset, form, lo, hi) ∈ fieldRowsLow ++ fieldRowsHigh →
      lo ≤ fieldValue img offset form ∧ fieldValue img offset form ≤ hi) ∧ relationsHold img n

/-! ## Invariants -/

/-- A chain record is as R6, R14 and R57 demand: A is 0 outside RAMP and ACTIVE and at most P inside them, P is the least
component and the limiter the first that equals it, a chain in RAMP has A below P, and the latch is set in LOCKOUT and
elsewhere at most in DISABLED. -/
structure RecordSafe (r : ChainRecord) : Prop where
  noDrive   : runState r.mode = none → r.applied = 0
  belowP    : r.applied ≤ r.permitted
  least     : r.permitted = leastComponent r
  limiter   : r.limiter = firstLimiter r r.permitted
  ramp      : r.mode = .ramp → r.applied < r.permitted
  lockedOut : r.mode = .lockout → r.latch = true
  latched   : r.latch = true → modeState r.mode = .lockout ∨ modeState r.mode = .disabled

/-- Every chain record is safe, the output lines are those of the chains' states and the alarm reasons, CHAIN_LOCKOUT
names exactly the chains in LOCKOUT, and DEFAULT_PROFILE holds exactly while the default is active (R6, R145, R147,
R149). -/
structure PartSafe (s : State) : Prop where
  records  : ∀ c, RecordSafe (recordOf s c)
  lines    : s.lines = linesOf s
  lockouts : ∀ c, s.alarms.lockoutChains.get c = inLockout (recordOf s c)
  default  : s.alarms.defaultProfile = decide (s.store.source = .builtIn)

/-- The Capture Queue holds at most 16 records, whose sequence numbers rise by one, modulo 65,536, up to the one before
the next (R120). -/
structure CaptureSafe (s : State) : Prop where
  bounded     : s.capture.records.length ≤ 16
  consecutive : ∀ k, (h : k < s.capture.records.length) →
    (s.capture.records[k]).sequence + BitVec.ofNat 16 (s.capture.records.length - k) = s.capture.next

/-- The level each chain's stage will hold once the bus is quiet is its A, no pending value equals the bus value, and
nothing waits while the bus is free (R140, R142). -/
structure BusSafe (s : State) : Prop where
  agrees  : ∀ c, (s.levelBus.pending.get c).getD (busValue s.levelBus c) = (recordOf s c).applied
  differs : ∀ c, s.levelBus.pending.get c ≠ some (busValue s.levelBus c)
  free    : s.levelBus.inFlight = none → ∀ c, s.levelBus.pending.get c = none

/-- The tracker's good count is below 4 in SEARCH; in LOCKED its estimate lies within τ of Tnu and fewer than 8 windows
in a row were missed (R130, R132, R134). -/
def TrackerSafe (s : State) : Prop :=
  match s.tracker.mode with
  | .search _ good _ => good < 4
  | .locked pe misses =>
    10 * s.tracker.tn - 10 * s.tracker.tn / 8 ≤ pe ∧ pe ≤ 10 * s.tracker.tn + 10 * s.tracker.tn / 8 ∧ misses < 8

/-- An image with a good CRC whose profile passes validation (R152, R153). -/
def imageValid (img : List Byte) : Prop := imageCrcGood img = true ∧ failingField img = none

/-- The slot write that is pending or in progress. -/
def slotWriteHeld (n : NvController) : Option SlotWrite :=
  match n.inProgress with
  | some ⟨.slot w, _⟩ => some w
  | _ => n.slotPending

/-- A write waits only behind a write in progress; a slot write is pending or in progress exactly while the load is
COMMITTING, for its target, never both at once; a slot is WRITING exactly while it is that target; and the profile
load is OPEN at an expected segment of at most 8 (R155, R157, R161). -/
structure StoreSafe (s : State) : Prop where
  idle       : s.nv.inProgress = none →
    s.nv.lockoutPending = false ∧ s.nv.directoryPending = false ∧ s.nv.slotPending = none
  one        : slotInProgress s.nv = true → s.nv.slotPending = none
  committing : ∀ k, s.store.load = .committing k ↔ (slotWriteHeld s.nv).map (·.slot) = some k
  writing    : ∀ k, s.store.slots.get k = .writing ↔ s.store.load = .committing k
  expected   : ∀ k n img t, s.store.load = .opened k n img t → n ≤ 8

/-- A profile that may be active: the built-in default, or the profile of a valid image with a good CRC (R152). -/
def ProfileGood (p : Profile) : Prop := p = builtInProfile ∨ ∃ img, imageValid img ∧ p = profileOfImage img

/-- Every profile the part holds as active, or has announced to a block that has not yet taken it, is the built-in default
or that of a valid image with a good CRC; so is the image of every VALID slot and of the slot write that waits or runs
(R152, R155, R159). -/
structure ProfilesSafe (s : State) : Prop where
  active   : ProfileGood s.store.active
  chains   : ∀ c, ProfileGood (profileOf s c) ∧ ∀ p ∈ (inboxOf s c).activations, ProfileGood p
  site     : ProfileGood s.site.profile ∧ ∀ p ∈ s.site.activations, ProfileGood p
  fastMute : ∀ p ∈ s.fastMute.activations, ProfileGood p
  tracker  : ∀ p ∈ s.tracker.activations, ProfileGood p
  slots    : ∀ k, s.store.slots.get k = .valid → ∃ img, s.array.slots.get k = .bytes img ∧ imageValid img
  write    : ∀ w, slotWriteHeld s.nv = some w → imageValid w.image
  pending  : ∀ w, s.nv.slotPending = some w → imageValid w.image

/-- A trip may yet find the chain: it is in QUALIFY, RAMP, ACTIVE or CLASSIFY. -/
def mayTrip (m : ChainMode) : Bool :=
  match m with
  | .disabled _ => false
  | .qualify _ => true
  | .ramp => true
  | .active => true
  | .classify _ _ _ => true
  | .holdoff _ _ => false
  | .lockout => false

/-- Each recent trip list holds at most 8 entries, each of weight 1 or 2; at most 7 where a trip may yet find the chain
(R113). -/
def TripsSafe (s : State) : Prop :=
  ∀ c, ((recordOf s c).tripList.length ≤ if mayTrip (recordOf s c).mode then 7 else 8)
    ∧ ∀ e ∈ (recordOf s c).tripList, causeWeight e.cause = 1 ∨ causeWeight e.cause = 2

end Sys2Proof.Machine
end

