-- ==== Sys2Proof/WellFormed.lean ====
section
/-! DEFINITION. Which commands are well formed: those that can stand for a frame of the two serial links. A command
that is not well formed still has its outcome in the machine; it is one the links cannot carry. -/

namespace Sys2Proof

/-- The bits make a sample frame that ends at its check word (R27, R28). -/
def frameOk (bits : List Bool) : Bool := (Machine.frameWords bits).any fun x => (Machine.frameGroup x).isSome

/-- The bits make a header that names group 5, 6 or 7 (R27). -/
def strangeGroup (bits : List Bool) : Bool :=
  (Machine.oneWord bits).any fun header => (Machine.headerGroupNo header).isNone

/-- The last of the bits completes a sync word and none before it does: the sync word stands in the bits whole, or they
are the end of one whose first bits the receiver may hold (R26). -/
def endsInSync (bits : List Bool) : Bool :=
  decide (bits ≠ []) &&
    match Machine.huntBits [] bits with
    | .searching _ =>
      decide (bits.length < 16) && decide (bits = Machine.lastBits bits.length (Machine.bitsOfWord Machine.syncWord))
    | .matched after => after.isEmpty

/-- The bytes after a start byte make a complete frame of a kind, with a good length byte and CRC, the CRC apart (R165). -/
def requestOk (kind : Byte) (inner crc : List Byte) : Bool :=
  decide (crc.length = 2) && (Machine.readFrame (inner ++ crc)).any fun m => m.kind == kind

/-- They make one by its three parts: length, kind and tag, then the body, then the CRC. -/
def partsOk (head body crc : List Byte) : Bool :=
  decide (head.length = 3) && decide (crc.length = 2) && (Machine.readFrame (head ++ body ++ crc)).isSome

/-- They make one whose kind is no request kind (R166). -/
def strangeOk (head body crc : List Byte) : Bool :=
  partsOk head body crc &&
    (Machine.readFrame (head ++ body ++ crc)).any fun m => !Machine.requestKinds.contains m.kind

/-- A command is well formed. -/
def Instr.wellFormed (i : Instr) : Bool :=
  match i with
  | .powerOnReset _ _ _ => true
  | .warmReset _ _ => true
  | .startUpEnd _ => true
  | .sampleFrame _ header fields check =>
    decide (header.length = 16) && decide (check.length = 16) && frameOk (header ++ fields ++ check)
  | .groupDiscard _ header => strangeGroup header
  | .shortFrameSync x => Machine.restartsFrame x.got
  | .shortFrameTimeout x => Machine.unfinishedFrame x.got && decide (Machine.silenceMicros ≤ x.quiet)
  | .staleDeadline _ _ => true
  | .lostDeadline _ _ => true
  | .flowLineEdge _ _ _ => true
  | .flowPulseQualify _ _ => true
  | .flowFilterRearm _ _ => true
  | .gateEnd _ => true
  | .flowGateResult _ _ => true
  | .chainEvaluation _ _ => true
  | .chainFreshnessChange _ _ => true
  | .siteEvaluation _ => true
  | .siteStale _ => true
  | .siteLost _ => true
  | .siteCeilingChange _ _ => true
  | .siteTripEvent _ _ => true
  | .siteFreshnessLoss _ _ => true
  | .interlockLineEdge _ _ => true
  | .interlockOpening _ => true
  | .interlockClosing _ => true
  | .chainInterlockOpening _ _ => true
  | .chainInterlockClosing _ _ => true
  | .fastLineEdge _ _ _ => true
  | .fastLineQualify _ _ => true
  | .fastFilterRearm _ _ => true
  | .qualifiedArcPulse _ _ => true
  | .qualifiedSurge _ _ => true
  | .windowExpiry _ _ => true
  | .dwellEnd _ _ => true
  | .tripListEntryExpiry _ _ => true
  | .runOnExpiry _ _ => true
  | .chainFrameTick _ _ => true
  | .captureRecordJoin _ => true
  | .markerLineEdge _ _ => true
  | .markerFilterRearm _ => true
  | .marker _ => true
  | .fallbackTick _ => true
  | .previousMarkerDrop _ => true
  | .windowClose _ => true
  | .levelTransferComplete _ => true
  | .chainProfileActivation _ _ => true
  | .siteProfileActivation _ => true
  | .trackerProfileActivation _ => true
  | .fastMuteProfileActivation _ => true
  | .loadTimeout _ => true
  | .lockoutRecordWriteComplete _ => true
  | .directoryWriteComplete _ => true
  | .slotWriteComplete _ => true
  | .framingError x => Machine.framingFault x.got
  | .controlFrameDiscard x => Machine.badFrame x.got
  | .controlFrameGapTimeout x => Machine.unfinishedBytes x.got && decide (Machine.gapMicros < x.quiet)
  | .unknownKind _ head body crc => strangeOk head body crc
  | .overlapFrame _ head body crc => partsOk head body crc
  | .identify _ inner crc => requestOk 0x01 inner crc
  | .readChain _ inner crc => requestOk 0x02 inner crc
  | .readSite _ inner crc => requestOk 0x03 inner crc
  | .readTiming _ inner crc => requestOk 0x04 inner crc
  | .readTrips _ inner crc => requestOk 0x05 inner crc
  | .readCapture _ inner crc => requestOk 0x06 inner crc
  | .readStore _ inner crc => requestOk 0x07 inner crc
  | .setLevel _ inner crc => requestOk 0x10 inner crc
  | .chainOn _ inner crc => requestOk 0x11 inner crc
  | .chainOff _ inner crc => requestOk 0x12 inner crc
  | .clearLockout _ inner crc => requestOk 0x13 inner crc
  | .releaseCapture _ inner crc => requestOk 0x14 inner crc
  | .loadBegin _ inner crc => requestOk 0x20 inner crc
  | .loadSegment _ inner crc => requestOk 0x21 inner crc
  | .loadEnd _ inner crc => requestOk 0x22 inner crc
  | .loadCancel _ inner crc => requestOk 0x23 inner crc
  | .activate _ inner crc => requestOk 0x24 inner crc
  | .setNotices _ inner crc => requestOk 0x30 inner crc
  | .reset _ inner crc => requestOk 0x3F inner crc
  | .transmitComplete _ => true
  | .syncWordMatch x => endsInSync x.got
  | .controlStartByte x => !x.got.contains Machine.startByte
  | .supplyBelowThreshold _ => true
  | .rstNRise _ => true

end Sys2Proof
end

