-- ==== Sys2Proof/Certificates/Slice0/Obligations.lean ====
section
/-! DEFINITION. The statements about the MJ-440 for the provers, each named for what it says. -/

section Statements

open Sys2Proof Sys2Proof.Machine

/-! ## The machine's step -/

/-- A step takes the command at the front of the queue and is that command's effect, the rest of the queue left
waiting. On an empty queue it leaves the state as it is, which is the model's own choice (assumption 4). -/
def Obligations.StepRunsFrontCommand : Prop :=
  ∀ s : State, (∀ c rest, s.pending = c :: rest → step s = exec c { s with pending := rest })
    ∧ (s.pending = [] → step s = .next s)

/-! ## Resets and start-up -/

/-- The state after a power-on reset has the site clock at 0, the trip lists and the Capture Queue empty with the next
sequence number 0, and every inhibit, cooling-demand and alarm line asserted; that no command waits in it is the model's
own choice (assumption 4). POWER_ON_RESET in any state sets the site clock to 0, empties every trip list and the Capture
Queue and its numbering, samples the straps, asserts every line, takes both bus lines to idle, empties the pending set of
writes, and keeps the nonvolatile array but for a record being written; that records waiting to join the queue are dropped
is assumption 18, that each chain stands in DISABLED until start-up places it is assumption 6, and that the bus is idle
before start-up's zeroing begins is assumption 26 (R126, R144, R145, R148, R150, R161, R163, R164). -/
def Obligations.PowerOnResetClears : Prop :=
  (State.reset.time = 0 ∧ State.reset.pending = [] ∧ (∀ c, (recordOf State.reset c).tripList = [])
    ∧ State.reset.capture.records = [] ∧ State.reset.capture.next = 0
    ∧ (∀ c, State.reset.lines.inhibit.get c = true ∧ State.reset.lines.cooling.get c = true)
    ∧ State.reset.lines.alarm = true)
  ∧ ∀ (dt : Nat) (b1 b0 : Bool) (s : State), ∃ t, exec (.powerOnReset dt b1 b0) s = .next t
    ∧ ResetFrame s t ∧ t.time = 0
    ∧ (∀ c, (recordOf t c).tripList = [] ∧ (recordOf t c).mode = .disabled none ∧ (recordOf t c).applied = 0)
    ∧ t.capture.records = [] ∧ t.capture.next = 0
    ∧ t.link.bsel1 = b1 ∧ t.link.bsel0 = b0 ∧ t.link.inHand = none ∧ t.link.transmitting = none
    ∧ t.levelBus.inFlight = none ∧ (∀ c, t.levelBus.pending.get c = none)
    ∧ t.pins = s.pins
    ∧ t.phase = (if s.pins.rstN then .startUp 0 else .held)

/-- A warm reset, by RST_N falling on a powered part or by the RESET request once its acceptance has been sent, keeps
the site clock, every trip list, the Capture Queue and its numbering and the rate; asserts every line; and cuts off the
chains' states, the level bus, whose lines go to idle, the writes and the messages in flight (R5, R126, R144, R145, R161,
R163, R172). That each chain stands in DISABLED until start-up places it is assumption 6, that records waiting to join the
queue are dropped is assumption 18, that the part waits, due to reset, between the acceptance's last byte and this command
is assumption 7, and that the bus is idle before start-up's zeroing begins is assumption 26. -/
def Obligations.WarmResetKeeps : Prop :=
  ∀ (dt : Nat) (cause : ResetCause) (s : State),
    (cause = .rstLow ∧ s.phase ≠ .unpowered ∨ cause = .requested ∧ s.phase = .resetDue) →
    ∃ t, exec (.warmReset dt cause) s = .next t
      ∧ ResetFrame s t ∧ t.time = s.time + dt
      ∧ (∀ c, (recordOf t c).tripList = (recordOf s c).tripList ∧ (recordOf t c).mode = .disabled none
          ∧ (recordOf t c).applied = 0)
      ∧ t.capture.records = s.capture.records ∧ t.capture.next = s.capture.next
      ∧ t.link.bsel1 = s.link.bsel1 ∧ t.link.bsel0 = s.link.bsel0
      ∧ t.link.inHand = none ∧ t.link.overlap = none ∧ t.link.reply = none ∧ t.link.transmitting = none
      ∧ t.levelBus.inFlight = none ∧ (∀ c, t.levelBus.pending.get c = none)
      ∧ t.pins = (if cause = .rstLow then { s.pins with rstN := false } else s.pins)
      ∧ t.phase = (if t.pins.rstN then .startUp t.time else .held)

/-- RST_N rising on a part held in reset begins start-up, with what a warm reset keeps kept; the supply falling below
its threshold leaves the part unpowered. Both hold every line asserted and the level bus idle, and keep the nonvolatile
array but for a record being written, which is left with a bad CRC as the supply falls (R144, R145, R161, R163; assumptions
11 and 21); records waiting to join the Capture Queue are dropped (assumption 18), and that the bus is idle before
start-up's zeroing begins is assumption 26. -/
def Obligations.StartUpBeginsWhenRstNRises : Prop :=
  (∀ (dt : Nat) (s : State), s.phase = .held → ∃ t, exec (.rstNRise dt) s = .next t
    ∧ ResetFrame s t ∧ t.time = s.time + dt ∧ t.phase = .startUp t.time ∧ t.pins = { s.pins with rstN := true }
    ∧ (∀ c, (recordOf t c).tripList = (recordOf s c).tripList)
    ∧ t.capture.records = s.capture.records ∧ t.capture.next = s.capture.next)
  ∧ (∀ (dt : Nat) (s : State), ∃ t, exec (.supplyBelowThreshold dt) s = .next t
    ∧ ResetFrame s t ∧ t.phase = .unpowered ∧ t.pins = s.pins)

/-- START_UP_END, once start-up has lasted the bus's zeroing, leaves every chain record at the values of Table 1-3 under
the chosen profile, its trip list less the aged entries (R5, R70), and places the chain as R25 lays down. Where the
auto-start test set a latch, one lockout record write of the latches has started; where every latch is as the record has
it, none is requested (R25, R118, R162; assumption 9). When the zeroing begins is assumption 26, and that START_UP_END waits
for its end assumption 6. -/
def Obligations.StartUpPlacesChains : Prop :=
  ∀ (dt began : Nat) (s : State), s.phase = .startUp began → began + Config.zeroingDelay + 48 ≤ s.time + dt →
    ∃ t, exec (.startUpEnd dt) s = .next t ∧ t.phase = .running ∧ t.time = s.time + dt ∧ t.pending = s.pending
      ∧ t.nv = { lockoutPending := false, directoryPending := false, slotPending := none
                 inProgress :=
                  if latchesOf t = (lockoutContent s.array.lockout).getD ⟨false, false, false, false⟩ then none
                  else some ⟨.lockout (latchesOf t), t.time⟩ }
      ∧ ∀ c, ∃ mode latch, ∃ p, p = designatedProfile s.array (chosenDesignation s.array)
        ∧ ∃ list, list = ((recordOf s c).tripList.filter fun e =>
              decide ((siteClock t - e.tripTime).toNat < p.tripWindow * 1000))
        ∧ t.chains.get c =
            { record :=
                { mode := mode, setPoint := p.startSetPoints.get c, cap := p.caps.get c, mismatch := 1000,
                  thermal := p.cA, site := 1000, blind := p.chainBlind,
                  permitted := min (p.startSetPoints.get c) (min (p.caps.get c) (min 1000 (min p.cA
                    (min 1000 p.chainBlind)))),
                  limiter := (recordOf t c).limiter,
                  applied := 0, readings := none, ratio := none, band := .a, freshness := .lost, flowRate := 0,
                  tripList := list, latch := latch }
              inbox := emptyInbox
              profile := p }
        ∧ (recordOf t c).limiter = firstLimiter (recordOf t c) (recordOf t c).permitted
        ∧ match lockoutContent s.array.lockout with
          | none => mode = .disabled none ∧ latch = false
          | some latches =>
            if latches.get c then mode = .lockout ∧ latch = true
            else if inSet p.autoStart c then
              if p.lockoutLimit ≤ weightSum list then mode = .lockout ∧ latch = true
              else latch = false ∧ ∃ set, mode = .qualify set ∧ FailingSet t c none false set
            else mode = .disabled none ∧ latch = false

/-- Start-up chooses the active profile and the alarm reasons: a valid directory that names a VALID slot, or DEFAULT,
gives that profile; one that names a slot that is not VALID gives the default with no store fault; an invalid one gives
the default and DIRECTORY_FAULT; an invalid lockout record gives LOCKOUT_RECORD_FAULT (R150, R160, R162). The directory
content is what a valid directory names, the default otherwise. The other blocks stand at their start-up values, with
nothing waiting for them: the Intake with every statistics counter 0 and each flow filter LOW, a line that is high having
first to fall (R44), the Site Monitor with the interlock sampled (R86), the Fast Mute Unit with counts of 0 and the tracker
in SEARCH, a line that is high being timed from now (R104, R137), the level bus (R144), the Control Link (R173); the
Capture Queue, the array and the lines in are as they were. When the zeroing that START_UP_END waits for begins is
assumption 26. -/
def Obligations.StartUpSetsStoreAndBlocks : Prop :=
  ∀ (dt began : Nat) (s : State), s.phase = .startUp began → began + Config.zeroingDelay + 48 ≤ s.time + dt →
    ∃ t, exec (.startUpEnd dt) s = .next t
      ∧ (match directoryContent s.array.directory with
        | some (.slot k) =>
          if slotStateOf (s.array.slots.get k) = .valid then
            t.store.source = .slot k ∧ ∃ img, s.array.slots.get k = .bytes img ∧ t.store.active = profileOfImage img
          else t.store.source = .builtIn ∧ t.store.active = builtInProfile
        | _ => t.store.source = .builtIn ∧ t.store.active = builtInProfile)
      ∧ t.alarms.directoryFault = (directoryContent s.array.directory).isNone
      ∧ t.alarms.lockoutRecordFault = (lockoutContent s.array.lockout).isNone
      ∧ t.alarms.siteLost = true ∧ t.alarms.defaultProfile = decide (t.store.source = .builtIn)
      ∧ (∀ k, t.store.slots.get k = slotStateOf (s.array.slots.get k)) ∧ t.store.load = .closed
      ∧ t.store.directory = (directoryContent s.array.directory).getD .builtIn
      ∧ t.intake.receiver = .hunting [] ∧ t.intake.siteGroup = ⟨none, .lost, none, none⟩
      ∧ (∀ c, t.intake.chainGroup.get c = ⟨none, .lost, none, none⟩
          ∧ t.intake.flow.get c = ⟨0, 0, 0, ⟨false, !s.pins.flows.get c, t.time⟩⟩)
      ∧ t.intake.statistics = ⟨⟨0, 0, 0, 0⟩, 0, 0, 0, 0, 0, 0⟩
      ∧ t.intake.gateDue = t.time + 250000
      ∧ t.site.record =
          { readings := none, ratio := none, feederLine := 1000, rejectLine := 1000, lowPressure := false,
            pressureCap := 1000, evaluated := 1000, ceiling := 1000, feederTrip := false, rejectTrip := false,
            freshness := .lost, interlock := if s.pins.ilk then .closed else .opened, filterSince := none }
      ∧ t.site.intake = [] ∧ t.site.activations = [] ∧ t.site.profile = t.store.active
      ∧ (∀ k, t.fastMute.arcs.get k = ⟨if s.pins.arcs.get k then .timing t.time else .idle, 0⟩)
      ∧ (∀ c, t.fastMute.surges.get c = ⟨if s.pins.surges.get c then .timing t.time else .idle, 0⟩)
      ∧ t.fastMute.arcMap = t.store.active.arcMap ∧ t.fastMute.activations = []
      ∧ trackerTime t = 0 ∧ t.tracker.tn = t.store.active.tn
      ∧ t.tracker.mode = .search none 0 (BitVec.ofNat 32 (10 * t.tracker.tn)) ∧ t.tracker.lastTick = 0
      ∧ t.tracker.markers = 0 ∧ t.tracker.strays = 0 ∧ t.tracker.virtuals = 0 ∧ t.tracker.fallbacks = 0
      ∧ t.tracker.locks = 0 ∧ t.tracker.losses = 0 ∧ t.tracker.activations = []
      ∧ t.tracker.filter = (if s.pins.fmk then .timing t.time else .idle)
      ∧ t.levelBus = { lastSent := ⟨0, 0, 0, 0⟩, pending := ⟨none, none, none, none⟩, inFlight := none, lastServed := 3 }
      ∧ t.link = { bsel1 := s.link.bsel1, bsel0 := s.link.bsel0, receiver := .hunting, inHand := none, reply := none,
                   overlap := none, noticeMask := noNotices, noticePending := noFlags, transmitting := none }
      ∧ t.capture = s.capture ∧ t.array = s.array ∧ t.pins = s.pins ∧ (∀ c, t.lines.inhibit.get c = true)
      ∧ (∀ c, t.lines.cooling.get c = decide (modeState (recordOf t c).mode ≠ .disabled)) ∧ t.lines.alarm = true

/-! ## The sample link (chapter 2) -/

/-- An accepted frame of a chain or of the site replaces the group's record whole, sets its two deadlines from Ts and Tm,
makes it FRESH, counts it, and delivers one evaluation that says whether the group was STALE or LOST; the other groups
and everything else are unchanged (R33). The frame is its words' bits, the most significant first (R26); that the bits of
its last word still count among the last sixteen received is assumption 25. -/
def Obligations.ValidFrameIsAccepted : Prop :=
  (∀ (dt : Nat) (x : FrameWords) (s : State) (c : ChainNo),
    s.phase = .running → inSampleFrame s = true → frameGroup x = some (.chain c) →
    x.check = checkWord x.header x.fields → headerFault x.header = false →
    lastSequence s (.chain c) ≠ some (headerSequence x.header) →
    ∃ t, exec (.sampleFrame dt (bitsOfWord x.header) (bitsOfWords x.fields) (bitsOfWord x.check)) s = .next t
      ∧ t.intake.chainGroup.get c =
          { last := some ⟨(conditionChain x.header x.fields).1, (conditionChain x.header x.fields).2,
              headerSequence x.header, siteClock t⟩
            freshness := .fresh
            staleDeadline := some (siteClock t + BitVec.ofNat 32 s.store.active.ts)
            lostDeadline := some (siteClock t + BitVec.ofNat 32 s.store.active.tm) }
      ∧ (∀ d, d ≠ c → t.intake.chainGroup.get d = s.intake.chainGroup.get d)
      ∧ t.intake.siteGroup = s.intake.siteGroup ∧ t.intake.flow = s.intake.flow ∧ t.intake.gateDue = s.intake.gateDue
      ∧ t.intake.receiver = .hunting ((bitsOfWord x.check).drop 1)
      ∧ t.intake.statistics = { s.intake.statistics with
          acceptedChain := s.intake.statistics.acceptedChain.set c (bump (s.intake.statistics.acceptedChain.get c)) }
      ∧ t.chains.get c = { s.chains.get c with
          inbox := { inboxOf s c with
            intake := (inboxOf s c).intake ++
              [.evaluation (conditionChain x.header x.fields).1
                (decide ((s.intake.chainGroup.get c).freshness ≠ .fresh))] } }
      ∧ (∀ d, d ≠ c → t.chains.get d = s.chains.get d)
      ∧ t = { s with time := s.time + dt, intake := t.intake, chains := t.chains })
  ∧ (∀ (dt : Nat) (x : FrameWords) (s : State),
    s.phase = .running → inSampleFrame s = true → frameGroup x = some .site →
    x.check = checkWord x.header x.fields → headerFault x.header = false →
    lastSequence s .site ≠ some (headerSequence x.header) →
    ∃ t, exec (.sampleFrame dt (bitsOfWord x.header) (bitsOfWords x.fields) (bitsOfWord x.check)) s = .next t
      ∧ t.intake = { s.intake with
          receiver := .hunting ((bitsOfWord x.check).drop 1)
          siteGroup :=
            { last := some ⟨(conditionSite x.header x.fields).1, (conditionSite x.header x.fields).2,
                headerSequence x.header, siteClock t⟩
              freshness := .fresh
              staleDeadline := some (siteClock t + BitVec.ofNat 32 s.store.active.ts)
              lostDeadline := some (siteClock t + BitVec.ofNat 32 s.store.active.tm) }
          statistics := { s.intake.statistics with acceptedSite := bump s.intake.statistics.acceptedSite } }
      ∧ t.site = { s.site with
          intake := s.site.intake ++
            [.evaluation (conditionSite x.header x.fields).1 (decide (s.intake.siteGroup.freshness ≠ .fresh))] }
      ∧ t = { s with time := s.time + dt, intake := t.intake, site := t.site })

/-- The only effect of a discard is its reason's counter: a completed frame counts CHECK, else FAULT, else DUPLICATE, the
first test that fails; a header of group 5 to 7 counts GROUP; an aligned sync word in a frame not yet finished counts SHORT
and starts a new one, and so does 1 ms without an SCLK edge, which drops the bits held. No group record, no chain and no
other block changes (R27, R28, R29). That the bits and the silence come with the command is assumption 8, and what a
receiver holds after a frame assumption 25. -/
def Obligations.DiscardOnlyCounts : Prop :=
  (∀ (dt : Nat) (x : FrameWords) (s : State) (g : GroupNo),
    s.phase = .running → inSampleFrame s = true → frameGroup x = some g →
    (x.check ≠ checkWord x.header x.fields ∨ headerFault x.header = true
      ∨ lastSequence s g = some (headerSequence x.header)) →
    exec (.sampleFrame dt (bitsOfWord x.header) (bitsOfWords x.fields) (bitsOfWord x.check)) s = .next { s with
      time := s.time + dt
      intake := { s.intake with
        receiver := .hunting ((bitsOfWord x.check).drop 1)
        statistics :=
          if x.check ≠ checkWord x.header x.fields then
            { s.intake.statistics with check := bump s.intake.statistics.check }
          else if headerFault x.header then { s.intake.statistics with fault := bump s.intake.statistics.fault }
          else { s.intake.statistics with duplicate := bump s.intake.statistics.duplicate } } })
  ∧ (∀ (dt : Nat) (header : Word16) (s : State), s.phase = .running → inSampleFrame s = true →
    5 ≤ headerGroup header →
    exec (.groupDiscard dt (bitsOfWord header)) s = .next { s with
      time := s.time + dt
      intake := { s.intake with
        receiver := .hunting ((bitsOfWord header).drop 1)
        statistics := { s.intake.statistics with group := bump s.intake.statistics.group } } })
  ∧ (∀ (dt since : Nat) (ws : List Word16) (s : State), s.phase = .running → s.intake.receiver = .inFrame since →
    0x5A3C ∉ ws →
    (∀ header rest, ws = header :: rest →
      headerGroup header ≤ 4 ∧ rest.length ≤ (if headerGroup header = 4 then 4 else 3)) →
    exec (.shortFrameSync ⟨dt, bitsOfWords (ws ++ [0x5A3C])⟩) s = .next { s with
        time := s.time + dt
        intake := { s.intake with
          receiver := .inFrame (s.time + dt)
          statistics := { s.intake.statistics with short := bump s.intake.statistics.short } } }
    ∧ ∀ (part : List Bool) (quiet : Nat), part.length < 16 → since + quiet ≤ s.time + dt →
      exec (.shortFrameTimeout ⟨dt, bitsOfWords ws ++ part, quiet⟩) s = .next { s with
        time := s.time + dt
        intake :=
          if 1000 ≤ quiet then
            { s.intake with
              receiver := .hunting []
              statistics := { s.intake.statistics with short := bump s.intake.statistics.short } }
          else s.intake })

/-- The two receivers. A HUNTING sample receiver compares the last sixteen bits with the sync word at every bit, counting
those it holds, and the bit that completes one takes it IN FRAME; bits that complete none are skipped, the last fifteen
held. A HUNTING control receiver skips every byte but 0xC3, which starts a frame. A character whose stop bit is low, a
length byte below 2 or above 250, a bad CRC at the end, or more than 5 ms without a byte discards the frame being received;
bytes that read as no good frame are no request. Nothing else changes (R26, R164, R165). That the bits, the bytes and the
silence come with the command is assumption 8; that a whole frame comes in its parts, whose bounds make no difference, is
assumption 2. -/
def Obligations.ReceiversHuntAndFrame : Prop :=
  ∀ (dt : Nat) (s : State), s.phase = .running →
    (∀ held bits, s.intake.receiver = .hunting held → bits ≠ [] →
      ((∀ n, 0 < n → n ≤ bits.length →
          (lastBits 16 (held ++ bits.take n) = bitsOfWord 0x5A3C ↔ n = bits.length)) →
        exec (.syncWordMatch ⟨dt, bits⟩) s = .next { s with
          time := s.time + dt, intake := { s.intake with receiver := .inFrame (s.time + dt) } })
      ∧ ((∀ n, 0 < n → n ≤ bits.length → lastBits 16 (held ++ bits.take n) ≠ bitsOfWord 0x5A3C) →
        exec (.syncWordMatch ⟨dt, bits⟩) s = .next { s with
          time := s.time + dt
          intake := { s.intake with receiver := .hunting (lastBits 15 (held ++ bits)) } }))
    ∧ (∀ skipped, s.link.receiver = .hunting → 0xC3 ∉ skipped →
      exec (.controlStartByte ⟨dt, skipped⟩) s = .next { s with
        time := s.time + dt, link := { s.link with receiver := .inFrame (s.time + dt) } })
    ∧ (∀ data : List Bool, data.length = 8 →
      exec (.framingError ⟨dt, false :: data ++ [false]⟩) s = .next { s with
        time := s.time + dt, link := { s.link with receiver := .hunting } })
    ∧ (∀ n : Byte, n.toNat < 2 ∨ 250 < n.toNat →
      exec (.controlFrameDiscard ⟨dt, [n]⟩) s = .next { s with
        time := s.time + dt, link := { s.link with receiver := .hunting } })
    ∧ (∀ (n c1 c2 : Byte) (inner : List Byte), 2 ≤ n.toNat → n.toNat ≤ 250 → inner.length = n.toNat →
      256 * c1.toNat + c2.toNat ≠ (crc16 (n :: inner)).toNat →
      exec (.controlFrameDiscard ⟨dt, n :: inner ++ [c1, c2]⟩) s = .next { s with
        time := s.time + dt, link := { s.link with receiver := .hunting } })
    ∧ (∀ (since quiet : Nat) (frame : List Byte), s.link.receiver = .inFrame since → since + quiet ≤ s.time + dt →
      (∀ n rest, frame = n :: rest → 2 ≤ n.toNat ∧ n.toNat ≤ 250 ∧ rest.length < n.toNat + 2) →
      exec (.controlFrameGapTimeout ⟨dt, frame, quiet⟩) s = .next { s with
        time := s.time + dt
        link := { s.link with receiver := if 5000 < quiet then .hunting else .inFrame since } })
    ∧ (∀ row ∈ requestTable, ∀ inner crc, readFrame (inner ++ crc) = none →
      exec (row.1 dt inner crc) s = .next { s with time := s.time + dt })
    ∧ (∀ row ∈ requestTable, ∀ inner crc, exec (row.1 dt inner crc) s = exec (row.1 dt (inner ++ crc) []) s)
    ∧ (∀ head body crc : List Byte,
      exec (.unknownKind dt head body crc) s = exec (.unknownKind dt (head ++ body ++ crc) [] []) s
      ∧ exec (.overlapFrame dt head body crc) s = exec (.overlapFrame dt (head ++ body ++ crc) [] []) s)
    ∧ (∀ header fields check : List Bool,
      exec (.sampleFrame dt header fields check) s = exec (.sampleFrame dt (header ++ fields ++ check) [] []) s)

/-- A FRESH group whose stale deadline the site clock has reached goes STALE, a STALE group whose lost deadline it has
reached goes LOST; the deadline is removed, everything else of the group kept, and its owner is told (R36, R37). -/
def Obligations.DeadlinesAgeGroups : Prop :=
  ∀ (dt : Nat) (s : State) (due : Word32), s.phase = .running → reached (siteClock (elapse dt s)) due = true →
    (∀ c, (s.intake.chainGroup.get c).freshness = .fresh → (s.intake.chainGroup.get c).staleDeadline = some due →
      ∃ t, exec (.staleDeadline dt (.chain c)) s = .next t
        ∧ t.intake = { s.intake with
            chainGroup := s.intake.chainGroup.set c
              { s.intake.chainGroup.get c with freshness := .stale, staleDeadline := none } }
        ∧ t.chains = s.chains.set c
            { s.chains.get c with inbox := { inboxOf s c with intake := (inboxOf s c).intake ++ [.wentStale] } }
        ∧ t = { s with time := s.time + dt, intake := t.intake, chains := t.chains })
    ∧ (∀ c, (s.intake.chainGroup.get c).freshness = .stale → (s.intake.chainGroup.get c).lostDeadline = some due →
      ∃ t, exec (.lostDeadline dt (.chain c)) s = .next t
        ∧ t.intake = { s.intake with
            chainGroup := s.intake.chainGroup.set c
              { s.intake.chainGroup.get c with freshness := .lost, lostDeadline := none } }
        ∧ t.chains = s.chains.set c
            { s.chains.get c with inbox := { inboxOf s c with intake := (inboxOf s c).intake ++ [.wentLost due] } }
        ∧ t = { s with time := s.time + dt, intake := t.intake, chains := t.chains })
    ∧ (s.intake.siteGroup.freshness = .fresh → s.intake.siteGroup.staleDeadline = some due →
      exec (.staleDeadline dt .site) s = .next { s with
        time := s.time + dt
        intake := { s.intake with
          siteGroup := { s.intake.siteGroup with freshness := .stale, staleDeadline := none } }
        site := { s.site with intake := s.site.intake ++ [.wentStale] } })
    ∧ (s.intake.siteGroup.freshness = .stale → s.intake.siteGroup.lostDeadline = some due →
      exec (.lostDeadline dt .site) s = .next { s with
        time := s.time + dt
        intake := { s.intake with
          siteGroup := { s.intake.siteGroup with freshness := .lost, lostDeadline := none } }
        site := { s.site with intake := s.site.intake ++ [.wentLost due] } })

/-! ## Coolant flow (R40 to R42) -/

/-- A flow line's edge restarts the time its filter has spent at the level; a line 20 µs high since an accepted rise
qualifies one pulse, after which it must stay low 20 µs before the next is accepted; nothing else changes (R40). At a gate
end each chain's flow rate becomes 4 times its count, the count restarts, the consecutive-low count rises to at most 255
below the flow minimum and returns to 0 otherwise, and each chain is delivered its result; the next gate is due 250 ms
later (R41). -/
def Obligations.FlowIsCountedAndRated : Prop :=
  (∀ (dt : Nat) (c : ChainNo) (s : State), s.phase = .running →
      (∀ high, s.pins.flows.get c ≠ high → ∃ t, exec (.flowLineEdge dt c high) s = .next t
        ∧ t.pins = { s.pins with flows := s.pins.flows.set c high }
        ∧ t.intake = { s.intake with
            flow := s.intake.flow.set c { s.intake.flow.get c with
              filter := { (s.intake.flow.get c).filter with since := s.time + dt } } }
        ∧ t = { s with time := s.time + dt, pins := t.pins, intake := t.intake })
      ∧ (s.pins.flows.get c = true → (s.intake.flow.get c).filter.armed = true →
        (s.intake.flow.get c).filter.since + 20 ≤ s.time + dt →
        exec (.flowPulseQualify dt c) s = .next { s with
          time := s.time + dt
          intake := { s.intake with
            flow := s.intake.flow.set c { s.intake.flow.get c with
              count := (s.intake.flow.get c).count + 1
              filter := { (s.intake.flow.get c).filter with high := true, armed := false } } } })
      ∧ (s.pins.flows.get c = false → (s.intake.flow.get c).filter.armed = false →
        (s.intake.flow.get c).filter.since + 20 ≤ s.time + dt →
        exec (.flowFilterRearm dt c) s = .next { s with
          time := s.time + dt
          intake := { s.intake with
            flow := s.intake.flow.set c { s.intake.flow.get c with
              filter := { (s.intake.flow.get c).filter with high := false, armed := true } } } }))
  ∧ (∀ (dt : Nat) (s : State), s.phase = .running → s.intake.gateDue ≤ s.time + dt →
      ∃ t, exec (.gateEnd dt) s = .next t
        ∧ (∀ c, (t.intake.flow.get c).count = 0 ∧ (t.intake.flow.get c).rate = (s.intake.flow.get c).count * 4
            ∧ (t.intake.flow.get c).filter = (s.intake.flow.get c).filter
            ∧ (t.intake.flow.get c).lowGates =
                (if (s.intake.flow.get c).count * 4 < s.store.active.flowMin then
                  (if (s.intake.flow.get c).lowGates < 255 then (s.intake.flow.get c).lowGates + 1
                   else (s.intake.flow.get c).lowGates)
                 else 0)
            ∧ t.chains.get c = { s.chains.get c with
                inbox := { inboxOf s c with
                  flow := (inboxOf s c).flow ++
                    [⟨(s.intake.flow.get c).count * 4,
                      decide (s.store.active.flowDwell ≤ (t.intake.flow.get c).lowGates)⟩] } })
        ∧ t.intake = { s.intake with flow := t.intake.flow, gateDue := s.intake.gateDue + 250000 }
        ∧ t = { s with time := s.time + dt, intake := t.intake, chains := t.chains })

/-- A flow gate result gives the chain its flow rate in every state; only a chain in RAMP or ACTIVE whose result is at
the dwell does more, and trips FLOW_LOSS: an entry of weight 1, a capture record, the THERMAL dwell, A 0 and the inhibit
asserted (R42, R107, R108). -/
def Obligations.FlowLossTripsRunningChain : Prop :=
  ∀ (dt : Nat) (c : ChainNo) (x : FlowResult) (rest : List FlowResult) (s : State), s.phase = .running →
    (inboxOf s c).flow = x :: rest →
    ∃ t, exec (.flowGateResult dt c) s = .next t ∧ ChainNotices c s t ∧
      match x.atDwell, runState (recordOf s c).mode with
      | true, some run =>
        ChainFrame dt c
          { s.chains.get c with
            record := trippedRecord .flowLoss (profileOf s c).dwellThermal (s.time + dt)
              ((recordOf s c).tripList ++ [⟨siteClock (elapse dt s), .flowLoss⟩])
              { recordOf s c with flowRate := x.rate }
            inbox := { inboxOf s c with flow := rest } }
          (handedBy c (s.time + dt)
            (slowTripCapture c .flowLoss (siteClock (elapse dt s)) run (recordOf s c).applied
              (weightSum (recordOf s c).tripList + 1) (trackerStateOf s.tracker)
              { recordOf s c with flowRate := x.rate }) s) s t
        ∧ t.lines.inhibit.get c = true
      | _, _ =>
        ChainFrame dt c
          { s.chains.get c with
            record := { recordOf s c with flowRate := x.rate }, inbox := { inboxOf s c with flow := rest } }
          s.capture.handed s t

/-! ## Evaluations (R11, R60 to R63) -/

/-- An evaluation outside QUALIFY, RAMP and ACTIVE does its steps 1 to 6 and nothing more: no trip is tested, A and the
state stay, the snapshot, the dwell and the trip list are not touched (R7, R60, R63). -/
def Obligations.EvaluationUpdatesRecordOnly : Prop :=
  ∀ (dt : Nat) (c : ChainNo) (x : ChainReadings) (returned : Bool) (rest : List (IntakeEvent ChainReadings))
    (s : State), s.phase = .running → (inboxOf s c).intake = .evaluation x returned :: rest →
    (∀ set, (recordOf s c).mode ≠ .qualify set) → runState (recordOf s c).mode = none →
    ∃ t r, exec (.chainEvaluation dt c) s = .next t ∧ EvaluatedTo (profileOf s c) x returned (recordOf s c) r
      ∧ ChainNotices c s t
      ∧ ChainFrame dt c { s.chains.get c with record := r, inbox := { inboxOf s c with intake := rest } }
          s.capture.handed s t

/-- An evaluation in RAMP or ACTIVE names the first of REFL_ABS, MISMATCH and OVERTEMP that holds and trips with it,
keeping in the capture record the A it found and the P it composed; if none holds, A follows the composition and a chain
in RAMP whose A is then P enters ACTIVE (R49, R53, R58, R60, R61, R62, R107). -/
def Obligations.EvaluationTripsOrFollows : Prop :=
  ∀ (dt : Nat) (c : ChainNo) (x : ChainReadings) (returned : Bool) (rest : List (IntakeEvent ChainReadings))
    (run : RunState) (s : State), s.phase = .running → (inboxOf s c).intake = .evaluation x returned :: rest →
    runState (recordOf s c).mode = some run →
    ∃ t r, exec (.chainEvaluation dt c) s = .next t ∧ EvaluatedTo (profileOf s c) x returned (recordOf s c) r
      ∧ ChainNotices c s t
      ∧ (∀ cause lengths,
          (if (profileOf s c).qmax < x.reflected then cause = .reflAbs ∧ lengths = (profileOf s c).dwellMismatch
           else if (∃ v, r.ratio = some v ∧ (profileOf s c).rt ≤ v) then
             cause = .mismatch ∧ lengths = (profileOf s c).dwellMismatch
           else (profileOf s c).ttrip ≤ x.tout ∧ cause = .overtemp ∧ lengths = (profileOf s c).dwellThermal) →
          ChainFrame dt c
            { s.chains.get c with
              record := trippedRecord cause lengths (s.time + dt)
                ((recordOf s c).tripList ++ [⟨siteClock (elapse dt s), cause⟩]) r
              inbox := { inboxOf s c with intake := rest } }
            (handedBy c (s.time + dt)
              (slowTripCapture c cause (siteClock (elapse dt s)) run (recordOf s c).applied
                (weightSum (recordOf s c).tripList + 1) (trackerStateOf s.tracker) r) s) s t
          ∧ t.lines.inhibit.get c = true)
      ∧ (x.reflected ≤ (profileOf s c).qmax → (∀ v, r.ratio = some v → v < (profileOf s c).rt) →
          x.tout < (profileOf s c).ttrip →
          ChainFrame dt c
            { s.chains.get c with
              record := { r with
                applied := min (recordOf s c).applied r.permitted
                mode := if run = .ramp ∧ (recordOf s c).applied < r.permitted then .ramp else .active }
              inbox := { inboxOf s c with intake := rest } }
            s.capture.handed s t)

/-- An evaluation in QUALIFY tests no trip. With every check passing it releases the inhibit and sets A to the smaller of
the ramp start level and P, entering ACTIVE if that is P and RAMP otherwise; with a check failing the chain stays, its
set replaced by the checks that failed (R9, R11, R145). -/
def Obligations.EvaluationReleasesQualifiedChain : Prop :=
  ∀ (dt : Nat) (c : ChainNo) (x : ChainReadings) (returned : Bool) (rest : List (IntakeEvent ChainReadings))
    (set : List Check) (s : State), s.phase = .running → (inboxOf s c).intake = .evaluation x returned :: rest →
    (recordOf s c).mode = .qualify set →
    ∃ t r, exec (.chainEvaluation dt c) s = .next t ∧ EvaluatedTo (profileOf s c) x returned (recordOf s c) r
      ∧ ChainNotices c s t
      ∧ (ChecksPass s c x.tout →
          ChainFrame dt c
            { s.chains.get c with
              record := { r with
                applied := min (profileOf s c).rampStart r.permitted
                mode := if (profileOf s c).rampStart < r.permitted then .ramp else .active }
              inbox := { inboxOf s c with intake := rest } }
            s.capture.handed s t
          ∧ t.lines.inhibit.get c = false)
      ∧ (¬ ChecksPass s c x.tout → ∃ set', FailingSet s c (some x.tout) (recordOf s c).latch set' ∧
          ChainFrame dt c
            { s.chains.get c with
              record := { r with mode := .qualify set' }, inbox := { inboxOf s c with intake := rest } }
            s.capture.handed s t
          ∧ t.lines.inhibit.get c = true)

/-- A chain taking its group's change to STALE sets B to the chain blind ceiling and recomposes, adding CHAIN_FRESH in
QUALIFY (R12, R36, R65). A chain in RAMP or ACTIVE taking its group's change to LOST trips MEAS_LOST at the time of the lost
deadline, with no trip list entry and the MEASUREMENT dwell; any other chain records the freshness, with CHAIN_FRESH in its
set in QUALIFY (R12, R37, R107, R108). The change to LOST is stated for a chain whose P is that of its components, which
PartSafe gives of every chain. -/
def Obligations.ChainTakesStaleAndLost : Prop :=
  (∀ (dt : Nat) (c : ChainNo) (rest : List (IntakeEvent ChainReadings)) (s : State), s.phase = .running →
      (inboxOf s c).intake = .wentStale :: rest →
      ∃ t r m, exec (.chainFreshnessChange dt c) s = .next t ∧ ChainNotices c s t
        ∧ RecomposedTo { recordOf s c with freshness := .stale, blind := (profileOf s c).chainBlind } r
        ∧ (∀ set, r.mode = .qualify set → ∃ set', m = .qualify set' ∧ SetGains .chainFresh set set')
        ∧ ((∀ set, r.mode ≠ .qualify set) → m = r.mode)
        ∧ ChainFrame dt c
            { s.chains.get c with record := { r with mode := m }, inbox := { inboxOf s c with intake := rest } }
            s.capture.handed s t)
  ∧ (∀ (dt : Nat) (c : ChainNo) (due : Word32) (rest : List (IntakeEvent ChainReadings)) (s : State),
      s.phase = .running → PartSafe s → (inboxOf s c).intake = .wentLost due :: rest →
      ∃ t, exec (.chainFreshnessChange dt c) s = .next t ∧ ChainNotices c s t
        ∧ (∀ run, runState (recordOf s c).mode = some run →
            ChainFrame dt c
              { s.chains.get c with
                record := trippedRecord .measLost (profileOf s c).dwellMeasurement (s.time + dt) (recordOf s c).tripList
                  { recordOf s c with freshness := .lost }
                inbox := { inboxOf s c with intake := rest } }
              (handedBy c (s.time + dt)
                (slowTripCapture c .measLost due run (recordOf s c).applied (weightSum (recordOf s c).tripList)
                  (trackerStateOf s.tracker) (recordOf s c)) s) s t
            ∧ t.lines.inhibit.get c = true)
        ∧ (∀ set, (recordOf s c).mode = .qualify set → ∃ set', SetGains .chainFresh set set' ∧
            ChainFrame dt c
              { s.chains.get c with
                record := { recordOf s c with freshness := .lost, mode := .qualify set' }
                inbox := { inboxOf s c with intake := rest } }
              s.capture.handed s t)
        ∧ (runState (recordOf s c).mode = none → (∀ set, (recordOf s c).mode ≠ .qualify set) →
            ChainFrame dt c
              { s.chains.get c with
                record := { recordOf s c with freshness := .lost }, inbox := { inboxOf s c with intake := rest } }
              s.capture.handed s t))

/-! ## What the Site Monitor delivers to a chain -/

/-- A site ceiling change sets X to the delivered value and recomposes P and the limiter, in every chain state; a fall of
X below A in RAMP or ACTIVE reduces A at once, a rise leaves it (R66). -/
def Obligations.SiteCeilingChangeRecomposes : Prop :=
  ∀ (dt : Nat) (c : ChainNo) (x : Nat) (trip : Option SiteTrip) (loss : Bool) (rest : List SiteDelivery) (s : State),
    s.phase = .running → (inboxOf s c).site = ⟨some x, trip, loss⟩ :: rest →
    ∃ t r, exec (.siteCeilingChange dt c) s = .next t ∧ ChainNotices c s t
      ∧ RecomposedTo { recordOf s c with site := x } r
      ∧ ChainFrame dt c
          { s.chains.get c with
            record := r, inbox := { inboxOf s c with site := siteLeft ⟨none, trip, loss⟩ rest } }
          s.capture.handed s t

/-- A site trip event trips a chain in RAMP or ACTIVE with its cause, weight and dwell class; adds SITE_OK, or SITE_FRESH
for SITE_MEAS_LOST, in QUALIFY; and does nothing to a chain in any other state. A site freshness loss adds SITE_FRESH in
QUALIFY and does nothing elsewhere (R12, R78, R80, R81, R106). A chain takes what one event of the Site Monitor delivered
in either order (R79) and what a later event delivered only after it, as R76 and R82 order ceiling changes and freshness
against an evaluation; that this holds of everything a later event delivered, so that a part the front delivery does not
hold is not taken whatever waits behind it and the command changes only the time, is assumption 3. -/
def Obligations.SiteTripTakenByState : Prop :=
  (∀ (dt : Nat) (c : ChainNo) (ceiling : Option Nat) (x : SiteTrip) (loss : Bool) (rest : List SiteDelivery) (s : State),
    s.phase = .running → (inboxOf s c).site = ⟨ceiling, some x, loss⟩ :: rest →
    ∃ t, exec (.siteTripEvent dt c) s = .next t ∧ ChainNotices c s t
      ∧ (∀ run cause lengths entries added, runState (recordOf s c).mode = some run →
          (match x with
            | .feederMismatch => cause = .feederMismatch ∧ lengths = (profileOf s c).dwellMismatch
                ∧ entries = [⟨siteClock (elapse dt s), .feederMismatch⟩] ∧ added = 1
            | .rejectOvertemp => cause = .rejectOvertemp ∧ lengths = (profileOf s c).dwellThermal
                ∧ entries = [⟨siteClock (elapse dt s), .rejectOvertemp⟩] ∧ added = 1
            | .siteMeasLost => cause = .siteMeasLost ∧ lengths = (profileOf s c).dwellMeasurement
                ∧ entries = [] ∧ added = 0) →
          ChainFrame dt c
            { s.chains.get c with
              record := trippedRecord cause lengths (s.time + dt) ((recordOf s c).tripList ++ entries) (recordOf s c)
              inbox := { inboxOf s c with site := siteLeft ⟨ceiling, none, loss⟩ rest } }
            (handedBy c (s.time + dt)
              (slowTripCapture c cause (siteClock (elapse dt s)) run (recordOf s c).applied
                (weightSum (recordOf s c).tripList + added) (trackerStateOf s.tracker) (recordOf s c)) s) s t
          ∧ t.lines.inhibit.get c = true)
      ∧ (∀ set, (recordOf s c).mode = .qualify set →
          ∃ set', SetGains (if x = .siteMeasLost then .siteFresh else .siteOk) set set' ∧
          ChainFrame dt c
            { s.chains.get c with
              record := { recordOf s c with mode := .qualify set' }
              inbox := { inboxOf s c with site := siteLeft ⟨ceiling, none, loss⟩ rest } }
            s.capture.handed s t)
      ∧ (runState (recordOf s c).mode = none → (∀ set, (recordOf s c).mode ≠ .qualify set) →
          ChainFrame dt c
            { s.chains.get c with
              inbox := { inboxOf s c with site := siteLeft ⟨ceiling, none, loss⟩ rest } }
            s.capture.handed s t))
  ∧ (∀ (dt : Nat) (c : ChainNo) (ceiling : Option Nat) (trip : Option SiteTrip) (rest : List SiteDelivery) (s : State),
    s.phase = .running → (inboxOf s c).site = ⟨ceiling, trip, true⟩ :: rest →
    ∃ t, exec (.siteFreshnessLoss dt c) s = .next t ∧ ChainNotices c s t
      ∧ (∀ set, (recordOf s c).mode = .qualify set → ∃ set', SetGains .siteFresh set set' ∧
          ChainFrame dt c
            { s.chains.get c with
              record := { recordOf s c with mode := .qualify set' }
              inbox := { inboxOf s c with site := siteLeft ⟨ceiling, trip, false⟩ rest } }
            s.capture.handed s t)
      ∧ ((∀ set, (recordOf s c).mode ≠ .qualify set) →
          ChainFrame dt c
            { s.chains.get c with
              inbox := { inboxOf s c with site := siteLeft ⟨ceiling, trip, false⟩ rest } }
            s.capture.handed s t))
  ∧ (∀ (dt : Nat) (c : ChainNo) (x : SiteDelivery) (rest : List SiteDelivery) (s : State), s.phase = .running →
    (inboxOf s c).site = x :: rest →
    (x.ceiling = none → exec (.siteCeilingChange dt c) s = .next { s with time := s.time + dt })
    ∧ (x.trip = none → exec (.siteTripEvent dt c) s = .next { s with time := s.time + dt })
    ∧ (x.loss = false → exec (.siteFreshnessLoss dt c) s = .next { s with time := s.time + dt }))

/-- An interlock opening takes a chain in RAMP or ACTIVE to QUALIFY with A 0, the inhibit asserted and INTERLOCK joined to
the checks that fail, with no trip entry and no capture record; adds INTERLOCK in QUALIFY; and changes no other chain. A
closing changes nothing of the chain (R10, R23, R24). That INTERLOCK is in the set even where the interlock has closed
again before the chain takes the opening is assumption 14. -/
def Obligations.InterlockSendsRunningChainToQualify : Prop :=
  (∀ (dt : Nat) (c : ChainNo) (rest : List InterlockChange) (s : State), s.phase = .running →
    (inboxOf s c).interlock = .opening :: rest →
    ∃ t, exec (.chainInterlockOpening dt c) s = .next t ∧ ChainNotices c s t
      ∧ (runState (recordOf s c).mode ≠ none → ∃ set set',
          FailingSet s c ((recordOf s c).readings.map (·.tout)) (recordOf s c).latch set
          ∧ SetGains .interlock set set' ∧
          ChainFrame dt c
            { s.chains.get c with
              record := { recordOf s c with mode := .qualify set', applied := 0 }
              inbox := { inboxOf s c with interlock := rest } }
            s.capture.handed s t
          ∧ t.lines.inhibit.get c = true)
      ∧ (∀ set, (recordOf s c).mode = .qualify set → ∃ set', SetGains .interlock set set' ∧
          ChainFrame dt c
            { s.chains.get c with
              record := { recordOf s c with mode := .qualify set' }
              inbox := { inboxOf s c with interlock := rest } }
            s.capture.handed s t)
      ∧ (runState (recordOf s c).mode = none → (∀ set, (recordOf s c).mode ≠ .qualify set) →
          ChainFrame dt c { s.chains.get c with inbox := { inboxOf s c with interlock := rest } }
            s.capture.handed s t))
  ∧ (∀ (dt : Nat) (c : ChainNo) (rest : List InterlockChange) (s : State), s.phase = .running →
    (inboxOf s c).interlock = .closing :: rest →
    ∃ t, exec (.chainInterlockClosing dt c) s = .next t
      ∧ t = { s with
          time := s.time + dt
          chains := s.chains.set c
            { s.chains.get c with inbox := { inboxOf s c with interlock := rest } } })

/-! ## Fast pulses (chapter 5) -/

/-- A qualified arc pulse or surge mutes a chain in RAMP or ACTIVE: its inhibit is asserted and A is 0 with the event, the
snapshot is held, the provisional cause is ARC_FLASH or SURGE, and the window runs from the qualification instant; no
trip list entry and no capture record are made (R93, R94, R95, R145). -/
def Obligations.FastPulseMutesRunningChain : Prop :=
  (∀ (dt : Nat) (c : ChainNo) (x : ArcPulse) (rest : List ArcPulse) (run : RunState) (s : State),
    s.phase = .running → (inboxOf s c).arcs = x :: rest → runState (recordOf s c).mode = some run →
    ∃ t, exec (.qualifiedArcPulse dt c) s = .next t ∧ ChainNotices c s t ∧ t.lines.inhibit.get c = true
      ∧ ChainFrame dt c
          { s.chains.get c with
            record := mutedRecord .arcFlash .arc (some x.line) run (profileOf s c).coincidence x.stamp (recordOf s c)
            inbox := { inboxOf s c with arcs := rest } }
          s.capture.handed s t)
  ∧ (∀ (dt : Nat) (c : ChainNo) (x : PulseStamp) (rest : List PulseStamp) (run : RunState) (s : State),
    s.phase = .running → (inboxOf s c).surges = x :: rest → runState (recordOf s c).mode = some run →
    ∃ t, exec (.qualifiedSurge dt c) s = .next t ∧ ChainNotices c s t ∧ t.lines.inhibit.get c = true
      ∧ ChainFrame dt c
          { s.chains.get c with
            record := mutedRecord .surge .surge none run (profileOf s c).coincidence x (recordOf s c)
            inbox := { inboxOf s c with surges := rest } }
          s.capture.handed s t)

/-- In CLASSIFY the other sign confirms: a surge makes ARC_FLASH into ARC_CONFIRMED, the first input and the arc line
staying (R97); an arc pulse makes SURGE into ARC_CONFIRMED and records its line, the first input staying SURGE (R96). Any
other pulse changes nothing; the window's expiry and A stay, and the inhibit stays asserted. -/
def Obligations.CoincidenceConfirmsArc : Prop :=
  (∀ (dt : Nat) (c : ChainNo) (x : PulseStamp) (rest : List PulseStamp) (cause : TripCause) (snap : Snapshot)
    (ends : Nat) (s : State), s.phase = .running → (inboxOf s c).surges = x :: rest →
    (recordOf s c).mode = .classify cause snap ends →
    ∃ t cause', exec (.qualifiedSurge dt c) s = .next t ∧ ChainNotices c s t ∧ t.lines.inhibit.get c = true
      ∧ (cause = .arcFlash → cause' = .arcConfirmed) ∧ (cause ≠ .arcFlash → cause' = cause)
      ∧ ChainFrame dt c
          { s.chains.get c with
            record := { recordOf s c with mode := .classify cause' snap ends }
            inbox := { inboxOf s c with surges := rest } }
          s.capture.handed s t)
  ∧ (∀ (dt : Nat) (c : ChainNo) (x : ArcPulse) (rest : List ArcPulse) (cause : TripCause) (snap : Snapshot)
    (ends : Nat) (s : State), s.phase = .running → (inboxOf s c).arcs = x :: rest →
    (recordOf s c).mode = .classify cause snap ends →
    ∃ t cause' snap', exec (.qualifiedArcPulse dt c) s = .next t ∧ ChainNotices c s t ∧ t.lines.inhibit.get c = true
      ∧ (cause = .surge → cause' = .arcConfirmed ∧ snap' = { snap with arcLine := some x.line })
      ∧ (cause ≠ .surge → cause' = cause ∧ snap' = snap)
      ∧ ChainFrame dt c
          { s.chains.get c with
            record := { recordOf s c with mode := .classify cause' snap' ends }
            inbox := { inboxOf s c with arcs := rest } }
          s.capture.handed s t)

/-- In HOLDOFF an arc pulse restarts the dwell from zero in time and ticks, with its lengths and cause kept and no entry
or record made, and a surge is ignored; in QUALIFY, DISABLED and LOCKOUT both are ignored (R100, R101). -/
def Obligations.LatePulseOnlyRestartsDwell : Prop :=
  (∀ (dt : Nat) (c : ChainNo) (x : ArcPulse) (rest : List ArcPulse) (s : State),
    s.phase = .running → (inboxOf s c).arcs = x :: rest →
    ∃ t, exec (.qualifiedArcPulse dt c) s = .next t ∧ ChainNotices c s t
      ∧ (∀ cause d, (recordOf s c).mode = .holdoff cause d →
          ChainFrame dt c
            { s.chains.get c with
              record := { recordOf s c with mode := .holdoff cause ⟨d.lengths, s.time + dt, d.lengths.ticks⟩ }
              inbox := { inboxOf s c with arcs := rest } }
            s.capture.handed s t)
      ∧ (modeState (recordOf s c).mode ∈ [ChainState.qualify, .disabled, .lockout] →
          ChainFrame dt c { s.chains.get c with inbox := { inboxOf s c with arcs := rest } } s.capture.handed s t))
  ∧ (∀ (dt : Nat) (c : ChainNo) (x : PulseStamp) (rest : List PulseStamp) (s : State),
    s.phase = .running → (inboxOf s c).surges = x :: rest →
    modeState (recordOf s c).mode ∈ [ChainState.holdoff, .qualify, .disabled, .lockout] →
    ∃ t, exec (.qualifiedSurge dt c) s = .next t ∧ ChainNotices c s t
      ∧ ChainFrame dt c { s.chains.get c with inbox := { inboxOf s c with surges := rest } } s.capture.handed s t)

/-- When its coincidence window has run out a chain makes its provisional cause final: an entry at the snapshot's trip
time if the cause weighs anything, a capture record from the snapshot with the sum after the entry, and HOLDOFF with the
dwell of the cause's class from this moment, A and the inhibit staying (R99, R106, R109). It is stated for the three
causes of a classification. -/
def Obligations.WindowExpiryMakesCauseFinal : Prop :=
  ∀ (dt : Nat) (c : ChainNo) (cause : TripCause) (snap : Snapshot) (ends weight : Nat) (lengths : DwellLengths)
    (s : State), s.phase = .running → (recordOf s c).mode = .classify cause snap ends → ends ≤ s.time + dt →
    (cause = .arcConfirmed ∧ weight = 2 ∧ lengths = (profileOf s c).dwellArc
      ∨ cause = .arcFlash ∧ weight = 1 ∧ lengths = (profileOf s c).dwellFlash
      ∨ cause = .surge ∧ weight = 1 ∧ lengths = (profileOf s c).dwellSurge) →
    ∃ t, exec (.windowExpiry dt c) s = .next t ∧ ChainNotices c s t ∧ t.lines.inhibit.get c = true
      ∧ ChainFrame dt c
          { s.chains.get c with
            record := trippedRecord cause lengths (s.time + dt)
              ((recordOf s c).tripList ++ [⟨snap.tripTime, cause⟩]) (recordOf s c) }
          (handedBy c (s.time + dt)
            (fastTripCapture c cause (weightSum (recordOf s c).tripList + weight) snap) s) s t

/-! ## A chain's own timers and ticks -/

/-- A dwell whose time is met and whose ticks were already taken ends in the lockout decision: with the aged entries gone,
a sum at or above L gives LOCKOUT with the latch set and a lockout record write requested, which starts at once where no
write is in progress; else QUALIFY; A stays 0 and the inhibit asserted (R110, R111, R117, R118, R161). -/
def Obligations.DwellEndDecidesLockout : Prop :=
  ∀ (dt : Nat) (c : ChainNo) (cause : TripCause) (d : Dwell) (s : State), s.phase = .running →
    (recordOf s c).mode = .holdoff cause d → d.ticksLeft = 0 → d.startedAt + d.lengths.time * 10000 ≤ s.time + dt →
    ∃ t r, exec (.dwellEnd dt c) s = .next t ∧ ChainNotices c s t ∧ t.lines.inhibit.get c = true
      ∧ LockoutDecided s c (siteClock t) (recordOf s c) r
      ∧ ChainFrame dt c { s.chains.get c with record := r } s.capture.handed s t

/-- A frame tick raises A by min(U, P − A) in RAMP and ACTIVE, U being the ramp or the recover step of the profile active
at the chain, and a chain in RAMP that reaches P enters ACTIVE; where A is P, and in QUALIFY, DISABLED, CLASSIFY and
LOCKOUT, the tick changes nothing (R14, R135, R139). In HOLDOFF it counts toward the dwell: the tick that brings the count
to the dwell ticks ends the dwell in the lockout decision if its time is met, a set latch requesting a lockout record
write, and any other is only counted (R110, R111, R118). -/
def Obligations.FrameTickRaisesOrCounts : Prop :=
  ∀ (dt : Nat) (c : ChainNo) (n : Nat) (s : State), s.phase = .running → (inboxOf s c).ticks = n + 1 →
    ∃ t r, exec (.chainFrameTick dt c) s = .next t ∧ ChainNotices c s t
      ∧ ((recordOf s c).mode = .ramp → (recordOf s c).applied < (recordOf s c).permitted →
          r = { recordOf s c with
            applied := (recordOf s c).applied +
              min (profileOf s c).rampStep ((recordOf s c).permitted - (recordOf s c).applied)
            mode := if (recordOf s c).permitted ≤ (recordOf s c).applied + (profileOf s c).rampStep then .active
                    else .ramp })
      ∧ ((recordOf s c).mode = .active → (recordOf s c).applied < (recordOf s c).permitted →
          r = { recordOf s c with
            applied := (recordOf s c).applied +
              min (profileOf s c).recoverStep ((recordOf s c).permitted - (recordOf s c).applied) })
      ∧ (runState (recordOf s c).mode ≠ none → (recordOf s c).permitted ≤ (recordOf s c).applied → r = recordOf s c)
      ∧ (modeState (recordOf s c).mode ∈ [ChainState.disabled, .qualify, .classify, .lockout] → r = recordOf s c)
      ∧ (∀ cause d, (recordOf s c).mode = .holdoff cause d →
          (d.ticksLeft = 1 ∧ d.startedAt + d.lengths.time * 10000 ≤ s.time + dt →
            LockoutDecided s c (siteClock t) (recordOf s c) r)
          ∧ (d.ticksLeft ≠ 1 ∨ s.time + dt < d.startedAt + d.lengths.time * 10000 →
            r = { recordOf s c with mode := .holdoff cause { d with ticksLeft := d.ticksLeft - 1 } }))
      ∧ ChainFrame dt c { s.chains.get c with record := r, inbox := { inboxOf s c with ticks := n } }
          s.capture.handed s t

/-- Every trip list entry whose age has reached the chain's trip window leaves, the others stay in order, and no state,
latch or capture record changes; run-on remaining leaves a chain in DISABLED when its time is up, and with band A its
cooling-demand line is then released (R8, R115, R147). -/
def Obligations.OwnTimersExpire : Prop :=
  ∀ (dt : Nat) (c : ChainNo) (s : State), s.phase = .running →
    (exec (.tripListEntryExpiry dt c) s = .next { s with
      time := s.time + dt
      chains := s.chains.set c { s.chains.get c with
        record := { recordOf s c with
          tripList := (recordOf s c).tripList.filter fun e =>
            decide ((siteClock (elapse dt s) - e.tripTime).toNat < (profileOf s c).tripWindow * 1000) } } })
    ∧ (∀ ends, (recordOf s c).mode = .disabled (some ends) → ends ≤ s.time + dt →
      ∃ t, exec (.runOnExpiry dt c) s = .next t ∧ ChainNotices c s t
        ∧ ChainFrame dt c { s.chains.get c with record := { recordOf s c with mode := .disabled none } }
            s.capture.handed s t
        ∧ t.lines.cooling.get c = decide ((recordOf s c).band ≠ .a))

/-- A record handed to the Capture Queue joins at its end with the next sequence number; where 16 are held the oldest is
removed and the joining record's gap is true, else its gap is false; the CAPTURE_NOTICE flag is raised where enabled
(R121). A record takes its place among those handed over behind every earlier one and, among those of its own instant, in
the order chains 0 to 3, then the Site Monitor (R122). -/
def Obligations.CaptureRecordJoinsQueue : Prop :=
  (∀ (dt : Nat) (x : HandedRecord) (rest : List HandedRecord) (s : State), s.phase = .running →
    s.capture.handed = x :: rest →
    ∃ t, exec (.captureRecordJoin dt) s = .next t ∧ LinkFrame dt { s with capture := t.capture } t
      ∧ t.link = servedLink { s.link with noticePending := raisedFlags none false true t.time s.link } t
      ∧ t.capture =
          { records := (if s.capture.records.length < 16 then s.capture.records else s.capture.records.tail) ++
              [⟨s.capture.next, decide (16 ≤ s.capture.records.length), x.record⟩]
            next := s.capture.next + 1
            handed := rest })
  ∧ (∀ (x : HandedRecord) (l : List HandedRecord), l.Pairwise joinsBefore → (∀ y ∈ l, y.at_ ≤ x.at_) →
    (placeRecord x l).Pairwise joinsBefore
      ∧ ∃ pre post, l = pre ++ post ∧ placeRecord x l = pre ++ x :: post
        ∧ (∀ y ∈ pre, joinsBefore y x) ∧ ∀ y ∈ post, y.at_ = x.at_ ∧ x.source < y.source)

/-! ## The Site Monitor (chapter 4) -/

/-- A site evaluation replaces the readings, forms the lines, sets X to their least, records the two trip conditions, and
delivers a changed X and, if a condition holds, one trip event to the four chains: FEEDER_MISMATCH when the feeder
condition holds, REJECT_OVERTEMP when the reject condition holds alone. A return withdraws SITE_LOST. The SITE_NOTICE flag
is raised by a return and by a change of either condition, and by nothing else of the evaluation (R72 to R77, R87). -/
def Obligations.SiteEvaluationDeliversToChains : Prop :=
  ∀ (dt : Nat) (x : SiteReadings) (returned : Bool) (rest : List (IntakeEvent SiteReadings)) (s : State),
    s.phase = .running → s.site.intake = .evaluation x returned :: rest →
    ∃ t r, exec (.siteEvaluation dt) s = .next t
      ∧ SiteLinesFormed s.site.profile x s.site.record r
      ∧ r.ceiling = r.evaluated ∧ r.freshness = (if returned then .fresh else s.site.record.freshness)
      ∧ (r.feederTrip = true ↔ ∃ v, r.ratio = some v ∧ s.site.profile.rtSite ≤ v)
      ∧ (r.rejectTrip = true ↔ s.site.profile.jtrip ≤ x.trej)
      ∧ SiteFrame dt { s.site with record := r, intake := rest }
          (fun b => { b with
            site := siteJoined
              ⟨if r.ceiling = s.site.record.ceiling then none else some r.ceiling,
                if r.feederTrip then some .feederMismatch else if r.rejectTrip then some .rejectOvertemp else none,
                false⟩ b.site })
          { s.alarms with siteLost := s.alarms.siteLost && !returned } s.capture.handed
          (returned || decide (r.feederTrip ≠ s.site.record.feederTrip)
            || decide (r.rejectTrip ≠ s.site.record.rejectTrip)) s t

/-- The site group's change to STALE lowers X to the site blind ceiling where the evaluated ceiling is higher, delivers a
changed X and a site freshness loss to every chain; its change to LOST leaves X, delivers SITE_MEAS_LOST and raises
SITE_LOST. Either raises the SITE_NOTICE flag. The readings, lines and trip flags are kept (R80, R81, R149). -/
def Obligations.SiteAgesToStaleAndLost : Prop :=
  (∀ (dt : Nat) (rest : List (IntakeEvent SiteReadings)) (s : State), s.phase = .running →
    s.site.intake = .wentStale :: rest →
    ∃ t, exec (.siteStale dt) s = .next t
      ∧ SiteFrame dt
          { s.site with
            record := { s.site.record with
              freshness := .stale, ceiling := min s.site.record.evaluated s.site.profile.siteBlind }
            intake := rest }
          (fun b => { b with
            site := siteJoined
              ⟨if min s.site.record.evaluated s.site.profile.siteBlind = s.site.record.ceiling then none
                else some (min s.site.record.evaluated s.site.profile.siteBlind), none, true⟩ b.site })
          s.alarms s.capture.handed true s t)
  ∧ (∀ (dt : Nat) (due : Word32) (rest : List (IntakeEvent SiteReadings)) (s : State), s.phase = .running →
    s.site.intake = .wentLost due :: rest →
    ∃ t, exec (.siteLost dt) s = .next t
      ∧ SiteFrame dt { s.site with record := { s.site.record with freshness := .lost }, intake := rest }
          (fun b => { b with site := siteJoined ⟨none, some .siteMeasLost, false⟩ b.site })
          { s.alarms with siteLost := true } s.capture.handed true s t
      ∧ t.lines.alarm = true)

/-- The interlock: an edge of ILK away from the state starts the filter's timing and one back abandons it; an unbroken
1 ms changes the state, an opening handing one INTERLOCK capture record over, and both delivering to every chain and
raising the SITE_NOTICE flag (R83, R84). -/
def Obligations.InterlockQualifiesAfterOneMillisecond : Prop :=
  ∀ (dt : Nat) (s : State), s.phase = .running →
    (∀ high, s.pins.ilk ≠ high →
      exec (.interlockLineEdge dt high) s = .next { s with
        time := s.time + dt
        pins := { s.pins with ilk := high }
        site := { s.site with record := { s.site.record with
          filterSince := if (s.site.record.interlock = .closed ↔ high = true) then none else some (s.time + dt) } } })
    ∧ (∀ since, s.site.record.interlock = .closed → s.pins.ilk = false → s.site.record.filterSince = some since →
      since + 1000 ≤ s.time + dt →
      ∃ t, exec (.interlockOpening dt) s = .next t
        ∧ SiteFrame dt { s.site with record := { s.site.record with interlock := .opened, filterSince := none } }
            (fun b => { b with interlock := b.interlock ++ [.opening] }) s.alarms
            (placeRecord
              ⟨4, s.time + dt,
                { cause := .interlock, firstInput := none, arcLine := none, tripTime := siteClock (elapse dt s)
                  siteCeiling := s.site.record.ceiling, tracker := trackerStateOf s.tracker, chainPart := none }⟩
              s.capture.handed) true s t)
    ∧ (∀ since, s.site.record.interlock = .opened → s.pins.ilk = true → s.site.record.filterSince = some since →
      since + 1000 ≤ s.time + dt →
      ∃ t, exec (.interlockClosing dt) s = .next t
        ∧ SiteFrame dt { s.site with record := { s.site.record with interlock := .closed, filterSince := none } }
            (fun b => { b with interlock := b.interlock ++ [.closing] }) s.alarms s.capture.handed true s t)

/-! ## Pulse filters and the Fast Mute Unit (sections 5.1, 5.2, 7.1) -/

/-- An edge of an arc line, a surge line or FMK changes the line's level and moves its filter: IDLE and a rise to TIMING,
TIMING and a fall to IDLE, HELD and a fall to REARM, REARM and a rise to HELD. A filter in REARM whose line has stayed low
2 µs (1 µs for FMK) is IDLE again. Nothing else changes (R88, R89, R127). -/
def Obligations.PulseFiltersFollowLines : Prop :=
  (∀ (dt : Nat) (s : State) (high : Bool) (f f' : PulseFilter), s.phase = .running →
      (match f, high with
        | .idle, true => f' = .timing (s.time + dt)
        | .timing _, false => f' = .idle
        | .held, false => f' = .rearm (s.time + dt)
        | .rearm _, true => f' = .held
        | _, _ => f' = f) →
      (∀ k, s.pins.arcs.get k ≠ high → (s.fastMute.arcs.get k).filter = f →
        exec (.fastLineEdge dt (.arc k) high) s = .next { s with
          time := s.time + dt
          pins := { s.pins with arcs := s.pins.arcs.set k high }
          fastMute := { s.fastMute with arcs := s.fastMute.arcs.set k { s.fastMute.arcs.get k with filter := f' } } })
      ∧ (∀ c, s.pins.surges.get c ≠ high → (s.fastMute.surges.get c).filter = f →
        exec (.fastLineEdge dt (.surge c) high) s = .next { s with
          time := s.time + dt
          pins := { s.pins with surges := s.pins.surges.set c high }
          fastMute := { s.fastMute with
            surges := s.fastMute.surges.set c { s.fastMute.surges.get c with filter := f' } } })
      ∧ (s.pins.fmk ≠ high → s.tracker.filter = f →
        exec (.markerLineEdge dt high) s = .next { s with
          time := s.time + dt
          pins := { s.pins with fmk := high }
          tracker := { s.tracker with filter := f' } }))
  ∧ (∀ (dt since : Nat) (s : State), s.phase = .running →
      (∀ k, s.pins.arcs.get k = false → (s.fastMute.arcs.get k).filter = .rearm since → since + 2 ≤ s.time + dt →
        exec (.fastFilterRearm dt (.arc k)) s = .next { s with
          time := s.time + dt
          fastMute := { s.fastMute with arcs := s.fastMute.arcs.set k { s.fastMute.arcs.get k with filter := .idle } } })
      ∧ (∀ c, s.pins.surges.get c = false → (s.fastMute.surges.get c).filter = .rearm since →
        since + 2 ≤ s.time + dt →
        exec (.fastFilterRearm dt (.surge c)) s = .next { s with
          time := s.time + dt
          fastMute := { s.fastMute with
            surges := s.fastMute.surges.set c { s.fastMute.surges.get c with filter := .idle } } })
      ∧ (s.pins.fmk = false → s.tracker.filter = .rearm since → since + 1 ≤ s.time + dt →
        exec (.markerFilterRearm dt) s = .next { s with
          time := s.time + dt, tracker := { s.tracker with filter := .idle } }))

/-- A pulse qualifies after an unbroken 2 µs high, and its line's count rises, staying at 65,535 once there (R90). On arc line
k a qualified arc pulse with the line number and the qualification instant is forwarded to exactly the chains of the line's
set in the Fast Mute Unit's arc map (R91); on surge line c a qualified surge with the qualification instant is forwarded
to Chain Supervisor c alone (R92). A pulse qualifies at the instant its line has been high for 2 µs (R89); that the tracker
state it carries (R94) is that of the moment at which it is forwarded is assumption 13. -/
def Obligations.QualifiedPulsesAreForwarded : Prop :=
  (∀ (dt since : Nat) (k : Fin 8) (s : State), s.phase = .running → s.pins.arcs.get k = true →
      (s.fastMute.arcs.get k).filter = .timing since → since + 2 ≤ s.time + dt →
      ∃ t, exec (.fastLineQualify dt (.arc k)) s = .next t
        ∧ t.fastMute = { s.fastMute with
            arcs := s.fastMute.arcs.set k
              ⟨.held, if (s.fastMute.arcs.get k).count < 65535 then (s.fastMute.arcs.get k).count + 1
                      else (s.fastMute.arcs.get k).count⟩ }
        ∧ InboxesOnly (fun c b =>
            if inSet (s.fastMute.arcMap.get k) c then
              { b with arcs := b.arcs ++
                  [⟨k, since + 2, BitVec.ofNat 32 ((since + 2) / 1000), trackerStateOf s.tracker⟩] }
            else b) s t
        ∧ t = { s with time := s.time + dt, fastMute := t.fastMute, chains := t.chains })
  ∧ (∀ (dt since : Nat) (c : ChainNo) (s : State), s.phase = .running → s.pins.surges.get c = true →
      (s.fastMute.surges.get c).filter = .timing since → since + 2 ≤ s.time + dt →
      ∃ t, exec (.fastLineQualify dt (.surge c)) s = .next t
        ∧ t.fastMute = { s.fastMute with
            surges := s.fastMute.surges.set c
              ⟨.held, if (s.fastMute.surges.get c).count < 65535 then (s.fastMute.surges.get c).count + 1
                      else (s.fastMute.surges.get c).count⟩ }
        ∧ t.chains.get c = { s.chains.get c with
            inbox := { inboxOf s c with
              surges := (inboxOf s c).surges ++
                [⟨since + 2, BitVec.ofNat 32 ((since + 2) / 1000), trackerStateOf s.tracker⟩] } }
        ∧ (∀ d, d ≠ c → t.chains.get d = s.chains.get d)
        ∧ t = { s with time := s.time + dt, fastMute := t.fastMute, chains := t.chains })

/-! ## The Frame Timing Reference (chapter 7) -/

/-- A marker in SEARCH becomes the previous marker; with one held, an interval within τ of Tnu raises the good count and
any other returns it to 0, and the fourth good interval in a row locks: Pe is that interval, the miss count 0, the lock
count rises and a frame tick goes to every chain. Short of that no tick is issued (R127, R129, R130, R135). The marker's instant is
the tracker unit in which it qualified, 1 µs after FMK rose (R128). -/
def Obligations.MarkersAcquireLock : Prop :=
  ∀ (dt since : Nat) (previous : Option Word32) (good : Nat) (due : Word32) (s : State), s.phase = .running →
    s.pins.fmk = true → s.tracker.filter = .timing since → since + 1 ≤ s.time + dt →
    s.tracker.mode = .search previous good due → good < 4 →
    ∃ t good' now, exec (.marker dt) s = .next t ∧ now = trackerUnit s.tracker (since + 1)
      ∧ (previous = none → good' = good)
      ∧ (∀ m, previous = some m →
          good' = if 10 * s.tracker.tn - 10 * s.tracker.tn / 8 ≤ (now - m).toNat
                    ∧ (now - m).toNat ≤ 10 * s.tracker.tn + 10 * s.tracker.tn / 8
                  then good + 1 else 0)
      ∧ (good' ≠ 4 →
          t = { s with
            time := s.time + dt
            tracker := { s.tracker with
              markers := bump s.tracker.markers, filter := .held
              mode := .search (some now) good' due } })
      ∧ (∀ m, previous = some m → good' = 4 →
          t.tracker = { s.tracker with
            markers := bump s.tracker.markers, filter := .held, locks := bump s.tracker.locks
            lastTick := now
            mode := .locked (now - m).toNat 0 }
          ∧ InboxesOnly (fun _ b => { b with ticks := b.ticks + 1 }) s t
          ∧ t = { s with time := s.time + dt, tracker := t.tracker, chains := t.chains })

/-- A marker in LOCKED inside the window of ±floor(Pe/16) about the expected instant issues a frame tick to every chain,
moves Pe by an eighth of its error rounded toward zero and clamped to the estimate band, and clears the miss count; one
outside is a stray: only its counts rise (R132, R133, R135). The marker's instant is the tracker unit in which it
qualified, 1 µs after FMK rose (R127, R128). -/
def Obligations.MarkersTrackPeriod : Prop :=
  ∀ (dt since pe misses : Nat) (s : State), s.phase = .running →
    s.pins.fmk = true → s.tracker.filter = .timing since → since + 1 ≤ s.time + dt →
    s.tracker.mode = .locked pe misses →
    ∃ t i now, exec (.marker dt) s = .next t ∧ now = trackerUnit s.tracker (since + 1)
      ∧ i = (now - s.tracker.lastTick).toNat
      ∧ (pe - pe / 16 ≤ i ∧ i ≤ pe + pe / 16 →
          ∃ pe', t.tracker = { s.tracker with
              markers := bump s.tracker.markers, filter := .held, lastTick := now
              mode := .locked pe' 0 }
          ∧ (pe' : Int) = max (10 * s.tracker.tn - (10 * s.tracker.tn / 8 : Nat) : Int)
              (min (10 * s.tracker.tn + (10 * s.tracker.tn / 8 : Nat) : Int) (pe + ((i : Int) - pe).tdiv 8))
          ∧ InboxesOnly (fun _ b => { b with ticks := b.ticks + 1 }) s t
          ∧ t = { s with time := s.time + dt, tracker := t.tracker, chains := t.chains })
      ∧ (i < pe - pe / 16 ∨ pe + pe / 16 < i →
          t = { s with
            time := s.time + dt
            tracker := { s.tracker with
              markers := bump s.tracker.markers, filter := .held, strays := bump s.tracker.strays } })

/-- The tracker's timers: fallback due reached in SEARCH issues a fallback tick and sets the next Tnu later; a previous
marker 2 × Tnu old is dropped; a window that closes with no on-time marker issues a virtual tick with last tick at the
expected instant, and the eighth in a row returns the tracker to SEARCH (R129, R131, R134, R135). -/
def Obligations.TrackerTimersIssueTicks : Prop :=
  (∀ (dt : Nat) (previous : Option Word32) (good : Nat) (due : Word32) (s : State), s.phase = .running →
    s.tracker.mode = .search previous good due → reached (trackerTime (elapse dt s)) due = true →
    ∃ t, exec (.fallbackTick dt) s = .next t
      ∧ t.tracker = { s.tracker with
          mode := .search previous good (trackerTime t + BitVec.ofNat 32 (10 * s.tracker.tn))
          lastTick := trackerTime t, fallbacks := bump s.tracker.fallbacks }
      ∧ InboxesOnly (fun _ b => { b with ticks := b.ticks + 1 }) s t
      ∧ t = { s with time := s.time + dt, tracker := t.tracker, chains := t.chains })
  ∧ (∀ (dt : Nat) (m : Word32) (good : Nat) (due : Word32) (s : State), s.phase = .running →
    s.tracker.mode = .search (some m) good due →
    2 * (10 * s.tracker.tn) ≤ (trackerTime (elapse dt s) - m).toNat →
    exec (.previousMarkerDrop dt) s = .next { s with
      time := s.time + dt, tracker := { s.tracker with mode := .search none 0 due } })
  ∧ (∀ (dt pe misses : Nat) (s : State), s.phase = .running → s.tracker.mode = .locked pe misses →
    pe + pe / 16 + 1 ≤ (trackerTime (elapse dt s) - s.tracker.lastTick).toNat →
    ∃ t, exec (.windowClose dt) s = .next t
      ∧ t.tracker = { s.tracker with
          lastTick := s.tracker.lastTick + BitVec.ofNat 32 pe, virtuals := bump s.tracker.virtuals
          losses := if misses < 7 then s.tracker.losses else bump s.tracker.losses
          mode := if misses < 7 then .locked pe (misses + 1)
            else .search none 0 (s.tracker.lastTick + BitVec.ofNat 32 pe + BitVec.ofNat 32 (10 * s.tracker.tn)) }
      ∧ InboxesOnly (fun _ b => { b with ticks := b.ticks + 1 }) s t
      ∧ t = { s with time := s.time + dt, tracker := t.tracker, chains := t.chains })

/-! ## Activations (R67, R85, R91, R136, R159) -/

/-- A chain taking an activation takes its cap, forms R, M, the band without hysteresis, Θ and B afresh from what it holds
under the new profile, recomposes, and ages its trip list under the new window; no trip is tested, and the window and the
dwell in flight keep their lengths (R51, R67, R98, R109, R115). -/
def Obligations.ActivationReformsChain : Prop :=
  ∀ (dt : Nat) (c : ChainNo) (p : Profile) (rest : List Profile) (s : State), s.phase = .running →
    (inboxOf s c).activations = p :: rest →
    ∃ t r0 r, exec (.chainProfileActivation dt c) s = .next t ∧ ChainNotices c s t
      ∧ r0 = { recordOf s c with
          cap := p.caps.get c, ratio := r0.ratio, mismatch := r0.mismatch, band := r0.band, thermal := r0.thermal
          blind := if (recordOf s c).freshness = .fresh then 1000 else p.chainBlind
          tripList := (recordOf s c).tripList.filter fun e =>
            decide ((siteClock t - e.tripTime).toNat < p.tripWindow * 1000) }
      ∧ ((recordOf s c).readings = none → r0.ratio = none ∧ r0.band = .a ∧ r0.thermal = p.cA)
      ∧ (∀ x, (recordOf s c).readings = some x →
          r0.ratio = (if p.fmin ≤ x.forward then some (min 1000 (1000 * x.reflected / x.forward)) else none)
          ∧ r0.band = (if p.e3 ≤ x.tout then .d else if p.e2 ≤ x.tout then .c else if p.e1 ≤ x.tout then .b else .a)
          ∧ r0.thermal = thermalCeiling p r0.band (some x.tout))
      ∧ (r0.ratio = none → r0.mismatch = 1000)
      ∧ (∀ v, r0.ratio = some v → r0.mismatch = foldback v p.rs p.rt p.mf)
      ∧ RecomposedTo r0 r
      ∧ ChainFrame dt c { record := r, inbox := { inboxOf s c with activations := rest }, profile := p }
          s.capture.handed s t

/-- The Site Monitor taking an activation forms its lines and X from the readings it holds, X under the site blind ceiling
unless FRESH, keeps the trip flags, and delivers a changed X, raising no flag; with no readings nothing changes. The Fast
Mute Unit takes the new arc map for the pulses to come. The tracker goes to SEARCH if Tn changed, its first fallback tick
issued at once where due has passed, and is unchanged otherwise (R85, R91, R136). That due equal to the tracker time of the
activation has not passed is assumption 15. -/
def Obligations.ActivationReachesOtherBlocks : Prop :=
  ∀ (dt : Nat) (p : Profile) (rest : List Profile) (s : State), s.phase = .running →
    (s.site.activations = p :: rest →
      ∃ t r, exec (.siteProfileActivation dt) s = .next t
        ∧ (s.site.record.readings = none → r = s.site.record)
        ∧ (∀ x, s.site.record.readings = some x → SiteLinesFormed p x s.site.record r
            ∧ r.ceiling = (if s.site.record.freshness = .fresh then r.evaluated else min r.evaluated p.siteBlind)
            ∧ r.feederTrip = s.site.record.feederTrip ∧ r.rejectTrip = s.site.record.rejectTrip
            ∧ r.freshness = s.site.record.freshness)
        ∧ t.site = { s.site with record := r, activations := rest, profile := p }
        ∧ InboxesOnly (fun _ b => { b with
            site := siteJoined
              ⟨if r.ceiling = s.site.record.ceiling then none else some r.ceiling, none, false⟩ b.site }) s t
        ∧ t = { s with time := s.time + dt, site := t.site, chains := t.chains })
    ∧ (s.fastMute.activations = p :: rest →
      exec (.fastMuteProfileActivation dt) s = .next { s with
        time := s.time + dt, fastMute := { s.fastMute with arcMap := p.arcMap, activations := rest } })
    ∧ (s.tracker.activations = p :: rest → p.tn = s.tracker.tn →
      exec (.trackerProfileActivation dt) s = .next { s with
        time := s.time + dt, tracker := { s.tracker with activations := rest } })
    ∧ (s.tracker.activations = p :: rest → p.tn ≠ s.tracker.tn →
      ∃ t passed, exec (.trackerProfileActivation dt) s = .next t
        ∧ passed = decide (10 * p.tn < (trackerTime (elapse dt s) - s.tracker.lastTick).toNat)
        ∧ t.tracker = { s.tracker with
            tn := p.tn, activations := rest
            lastTick := if passed then trackerTime (elapse dt s) else s.tracker.lastTick
            fallbacks := if passed then bump s.tracker.fallbacks else s.tracker.fallbacks
            mode := .search none 0 (t.tracker.lastTick + BitVec.ofNat 32 (10 * p.tn)) }
        ∧ InboxesOnly (fun _ b => { b with ticks := if passed then b.ticks + 1 else b.ticks }) s t
        ∧ t = { s with time := s.time + dt, tracker := t.tracker, chains := t.chains })

/-! ## The level bus and the nonvolatile writes -/

/-- A level transfer ends after its 12 µs: last sent becomes the level sent, and the free bus starts the pending level its
arbiter chooses: reductions before raises, and within the class the first chain after the last served in cyclic order
(R141, R142). -/
def Obligations.TransferEndServesNextChain : Prop :=
  ∀ (dt : Nat) (tr : Transfer) (sent : Quad Nat) (s : State), s.phase = .running →
    s.levelBus.inFlight = some tr → tr.started + 12 ≤ s.time + dt →
    sent = s.levelBus.lastSent.set tr.chain tr.level →
    ∃ t, exec (.levelTransferComplete dt) s = .next t
      ∧ t = { s with time := s.time + dt, levelBus := t.levelBus }
      ∧ ((∀ c, s.levelBus.pending.get c = none) →
          t.levelBus = { s.levelBus with lastSent := sent, inFlight := none })
      ∧ (∀ (c : ChainNo) (k v : Nat), c = s.levelBus.lastServed + 1 + Fin.ofNat 4 k → k < 4 →
          s.levelBus.pending.get c = some v →
          (v < sent.get c ∧ (∀ (d : ChainNo) (j w : Nat), d = s.levelBus.lastServed + 1 + Fin.ofNat 4 j → j < k →
              s.levelBus.pending.get d = some w → sent.get d ≤ w)
            ∨ sent.get c < v ∧ (∀ (d : ChainNo) (w : Nat), s.levelBus.pending.get d = some w → sent.get d ≤ w)
              ∧ (∀ (d : ChainNo) (j w : Nat), d = s.levelBus.lastServed + 1 + Fin.ofNat 4 j → j < k →
                s.levelBus.pending.get d = some w → w ≤ sent.get d)) →
          t.levelBus = { s.levelBus with
            lastSent := sent, pending := s.levelBus.pending.set c none, inFlight := some ⟨c, v, s.time + dt⟩
            lastServed := c })

/-- A write that has run its 8 or 60 ms ends: the record holds what was taken at the write's start and its fault leaves
the alarm reasons, which raises the SITE_NOTICE flag; a slot write makes the slot VALID, closes the load and produces the held LOAD_END reply; and the next
pending write starts, lockout record before directory before slot (R118, R150, R158, R160, R161). -/
def Obligations.WriteEndRecordsAndStartsNext : Prop :=
  (∀ (dt since : Nat) (latches : Quad Bool) (s : State), s.phase = .running →
    s.nv.inProgress = some ⟨.lockout latches, since⟩ → since + 8000 ≤ s.time + dt →
    ∃ t cell, exec (.lockoutRecordWriteComplete dt) s = .next t ∧ NextWriteStarts s t
      ∧ t.link = servedLink
          { s.link with noticePending := raisedFlags none (decide (t.alarms ≠ s.alarms)) false t.time s.link } t
      ∧ lockoutContent cell = some latches ∧ WriteFrame dt { s.array with lockout := cell } s t
      ∧ t.alarms = { s.alarms with lockoutRecordFault := false } ∧ t.store = s.store)
  ∧ (∀ (dt since : Nat) (d : Designation) (s : State), s.phase = .running →
    s.nv.inProgress = some ⟨.directory d, since⟩ → since + 8000 ≤ s.time + dt →
    ∃ t cell, exec (.directoryWriteComplete dt) s = .next t ∧ NextWriteStarts s t
      ∧ t.link = servedLink
          { s.link with noticePending := raisedFlags none (decide (t.alarms ≠ s.alarms)) false t.time s.link } t
      ∧ directoryContent cell = some d ∧ WriteFrame dt { s.array with directory := cell } s t
      ∧ t.alarms = { s.alarms with directoryFault := false } ∧ t.store = s.store)
  ∧ (∀ (dt since : Nat) (w : SlotWrite) (h : InHand) (s : State), s.phase = .running →
    s.nv.inProgress = some ⟨.slot w, since⟩ → since + 60000 ≤ s.time + dt → s.link.inHand = some h →
    ∃ t, exec (.slotWriteComplete dt) s = .next t ∧ NextWriteStarts s t
      ∧ WriteFrame dt { s.array with slots := s.array.slots.set w.slot (.bytes w.image) } s t
      ∧ t.alarms = s.alarms
      ∧ t.store = { s.store with slots := s.store.slots.set w.slot .valid, load := .closed }
      ∧ t.link = servedLink
          { s.link with
            reply := some ⟨h.kind + 0x80, h.tag,
              BitVec.ofNat 8 w.slot.val
                :: ((profileOfImage w.image).name ++ bytes16 (profileOfImage w.image).revision)⟩ } t)

/-! ## Requests (chapter 10) -/

/-- The seven reads are answered with a snapshot of what they report, taken when the request is taken, and change nothing
else (R87, R113, R123, R138, R155, R166, R168). -/
def Obligations.ReadsReplyWithSnapshot : Prop :=
  ∀ (dt : Nat) (tag : Byte) (s : State), CanTake s →
    (∃ t, exec (requestOf .identify dt ⟨0x01, tag, []⟩) s = .next t ∧ LinkFrame dt s t
      ∧ RequestTaken 0x01 tag ⟨0x81, tag, [0x04, 0x40, 0x01] ++ s.store.active.name ++ bytes16 s.store.active.revision
          ++ (match s.store.source with
              | .slot k => [BitVec.ofNat 8 k.val, 0x00]
              | .builtIn => [0x0F, 0x01])⟩ s.link.noticePending s t)
    ∧ (∀ (b : Byte) (c : ChainNo), b.toNat = c.val →
      ∃ t, exec (requestOf .readChain dt ⟨0x02, tag, [b]⟩) s = .next t ∧ LinkFrame dt s t
        ∧ RequestTaken 0x02 tag ⟨0x82, tag, chainBody (elapse dt s) c⟩ s.link.noticePending s t)
    ∧ (∃ t, exec (requestOf .readSite dt ⟨0x03, tag, []⟩) s = .next t ∧ LinkFrame dt s t
      ∧ RequestTaken 0x03 tag ⟨0x83, tag, siteBody (elapse dt s)⟩ s.link.noticePending s t)
    ∧ (∃ t, exec (requestOf .readTiming dt ⟨0x04, tag, []⟩) s = .next t ∧ LinkFrame dt s t
      ∧ RequestTaken 0x04 tag ⟨0x84, tag, timingBody (elapse dt s)⟩ s.link.noticePending s t)
    ∧ (∀ (b : Byte) (c : ChainNo), b.toNat = c.val →
      ∃ t, exec (requestOf .readTrips dt ⟨0x05, tag, [b]⟩) s = .next t ∧ LinkFrame dt s t
        ∧ RequestTaken 0x05 tag ⟨0x85, tag, tripsBody (elapse dt s) c⟩ s.link.noticePending s t)
    ∧ (∃ t, exec (requestOf .readCapture dt ⟨0x06, tag, []⟩) s = .next t ∧ LinkFrame dt s t
      ∧ RequestTaken 0x06 tag ⟨0x86, tag, match s.capture.records with
          | [] => [0x00]
          | x :: _ => 0x01 :: captureBytes x⟩ s.link.noticePending s t)
    ∧ (∃ t, exec (requestOf .readStore dt ⟨0x07, tag, []⟩) s = .next t ∧ LinkFrame dt s t
      ∧ RequestTaken 0x07 tag ⟨0x87, tag, storeBody (elapse dt s)⟩ s.link.noticePending s t)

/-- SET_LEVEL takes the value, clamped to 1000, as S in every chain state and recomposes; the acceptance carries the value
taken. A body of another length is refused BAD_LENGTH with the length expected, a chain above 3 DESIGNATION with the value
refused, and neither changes a chain (R16, R21, R166). -/
def Obligations.SetLevelTakesClampedValue : Prop :=
  ∀ (dt : Nat) (tag b0 b1 b2 : Byte) (s : State), CanTake s →
    (∀ c : ChainNo, b0.toNat = c.val →
      ∃ t r v, exec (requestOf .setLevel dt ⟨0x10, tag, [b0, b1, b2]⟩) s = .next t
        ∧ v = min 1000 (256 * b1.toNat + b2.toNat)
        ∧ RecomposedTo { recordOf s c with setPoint := v } r
        ∧ RequestTaken 0x10 tag ⟨0x90, tag, [b0, BitVec.ofNat 8 (v / 256), BitVec.ofNat 8 v]⟩ (chainFlags c s t) s t
        ∧ ChainFrame dt c { s.chains.get c with record := r } s.capture.handed s t)
    ∧ (4 ≤ b0.toNat → ∃ t, exec (requestOf .setLevel dt ⟨0x10, tag, [b0, b1, b2]⟩) s = .next t ∧ LinkFrame dt s t
        ∧ RequestTaken 0x10 tag ⟨0xFE, tag, [0x10, 0x03, b0]⟩ s.link.noticePending s t)
    ∧ (∀ body : List Byte, body.length ≤ 248 → body.length ≠ 3 → ∃ t, exec (requestOf .setLevel dt ⟨0x10, tag, body⟩) s = .next t ∧ LinkFrame dt s t
        ∧ RequestTaken 0x10 tag ⟨0xFE, tag, [0x10, 0x02, 0x03]⟩ s.link.noticePending s t)

/-- CHAIN_ON at a chain in DISABLED is refused LOCKED_OUT with the latch set; gives LOCKOUT, the latch set and a lockout
record write requested with the weight sum at or above L; and gives QUALIFY with the checks that fail otherwise, TEMP among
them while no Tout is held. In any other state it is accepted and changes nothing. The acceptance reports the state after it (R10, R16, R17,
R117, R118). -/
def Obligations.ChainOnQualifiesOrLocksOut : Prop :=
  ∀ (dt : Nat) (tag b : Byte) (c : ChainNo) (s : State), CanTake s → b.toNat = c.val →
    ∃ t, exec (requestOf .chainOn dt ⟨0x11, tag, [b]⟩) s = .next t
      ∧ (∀ ends, (recordOf s c).mode = .disabled ends →
          ((recordOf s c).latch = true → LinkFrame dt s t ∧ RequestTaken 0x11 tag ⟨0xFE, tag, [0x11, 0x05]⟩ s.link.noticePending s t)
          ∧ ((recordOf s c).latch = false → (recordOf s c).applied = 0 →
              ((profileOf s c).lockoutLimit ≤ weightSum (recordOf s c).tripList →
                RequestTaken 0x11 tag ⟨0x91, tag, [b, 0x06]⟩ (chainFlags c s t) s t
                ∧ ChainFrame dt c
                    { s.chains.get c with record := { recordOf s c with mode := .lockout, latch := true } }
                    s.capture.handed s t)
              ∧ (weightSum (recordOf s c).tripList < (profileOf s c).lockoutLimit → ∃ set,
                RequestTaken 0x11 tag ⟨0x91, tag, [b, 0x01]⟩ (chainFlags c s t) s t
                ∧ FailingSet s c ((recordOf s c).readings.map (·.tout)) false set
                ∧ ChainFrame dt c { s.chains.get c with record := { recordOf s c with mode := .qualify set } }
                    s.capture.handed s t)))
      ∧ (modeState (recordOf s c).mode ≠ .disabled → LinkFrame dt s t
          ∧ RequestTaken 0x11 tag
              ⟨0x91, tag, [b, BitVec.ofNat 8 (stateCode (modeState (recordOf s c).mode))]⟩ s.link.noticePending s t)

/-- CHAIN_OFF takes a chain to DISABLED with A 0, the latch kept and the run-on timer started, unless the run-on time is 0;
from CLASSIFY it first makes the entry and the capture record that window expiry would have made; from every other state
it makes none; in DISABLED it changes nothing (R8, R15, R18, R19). -/
def Obligations.ChainOffDisables : Prop :=
  ∀ (dt : Nat) (tag b : Byte) (c : ChainNo) (s : State), CanTake s → b.toNat = c.val →
    ∃ t, exec (requestOf .chainOff dt ⟨0x12, tag, [b]⟩) s = .next t
      ∧ RequestTaken 0x12 tag ⟨0x92, tag, [b, 0x00]⟩ (chainFlags c s t) s t ∧ t.lines.inhibit.get c = true
      ∧ (modeState (recordOf s c).mode = .disabled → LinkFrame dt s t)
      ∧ (∀ cause snap ends weight, (recordOf s c).mode = .classify cause snap ends →
          (cause = .arcConfirmed ∧ weight = 2 ∨ (cause = .arcFlash ∨ cause = .surge) ∧ weight = 1) →
          ChainFrame dt c
            { s.chains.get c with record := { recordOf s c with
                mode := .disabled (if (profileOf s c).runOn = 0 then none
                  else some (s.time + dt + (profileOf s c).runOn * 1000000))
                applied := 0
                tripList := (recordOf s c).tripList ++ [⟨snap.tripTime, cause⟩] } }
            (handedBy c (s.time + dt)
              (fastTripCapture c cause (weightSum (recordOf s c).tripList + weight) snap) s) s t)
      ∧ (modeState (recordOf s c).mode ∈ [ChainState.qualify, .ramp, .active, .holdoff, .lockout] →
          ChainFrame dt c
            { s.chains.get c with record := { recordOf s c with
                mode := .disabled (if (profileOf s c).runOn = 0 then none
                  else some (s.time + dt + (profileOf s c).runOn * 1000000))
                applied := 0 } }
            s.capture.handed s t)

/-- CLEAR_LOCKOUT at a chain whose latch is set clears it, empties the trip list and requests a lockout record write; a
chain in LOCKOUT then enters QUALIFY with the checks that fail, one in DISABLED stays there. With the latch clear it is accepted and changes
nothing (R16, R20). -/
def Obligations.ClearLockoutClearsLatch : Prop :=
  ∀ (dt : Nat) (tag b : Byte) (c : ChainNo) (s : State), CanTake s → b.toNat = c.val →
    ∃ t, exec (requestOf .clearLockout dt ⟨0x13, tag, [b]⟩) s = .next t
      ∧ ((recordOf s c).latch = true → (recordOf s c).mode = .lockout → (recordOf s c).applied = 0 → ∃ set,
          RequestTaken 0x13 tag ⟨0x93, tag, [b, 0x01]⟩ (chainFlags c s t) s t
          ∧ FailingSet s c ((recordOf s c).readings.map (·.tout)) false set
          ∧ ChainFrame dt c
              { s.chains.get c with
                record := { recordOf s c with mode := .qualify set, latch := false, tripList := [] } }
              s.capture.handed s t)
      ∧ ((recordOf s c).latch = true → modeState (recordOf s c).mode = .disabled →
          RequestTaken 0x13 tag ⟨0x93, tag, [b, 0x00]⟩ (chainFlags c s t) s t
          ∧ ChainFrame dt c { s.chains.get c with record := { recordOf s c with latch := false, tripList := [] } }
              s.capture.handed s t)
      ∧ ((recordOf s c).latch = false → LinkFrame dt s t
          ∧ RequestTaken 0x13 tag
              ⟨0x93, tag, [b, BitVec.ofNat 8 (stateCode (modeState (recordOf s c).mode))]⟩ s.link.noticePending s t)

/-- RELEASE_CAPTURE of the oldest record's number removes it and reports the new oldest or the empty indication; the
number of another record in the queue is refused SEQUENCE with the oldest's number, any other NOT_FOUND, the queue
unchanged (R124). -/
def Obligations.ReleaseRemovesOnlyOldest : Prop :=
  ∀ (dt : Nat) (tag b0 b1 : Byte) (n : Word16) (s : State), CanTake s → n.toNat = 256 * b0.toNat + b1.toNat →
    ∃ t, exec (requestOf .releaseCapture dt ⟨0x14, tag, [b0, b1]⟩) s = .next t
      ∧ (∀ x rest, s.capture.records = x :: rest → x.sequence = n →
          LinkFrame dt { s with capture := { s.capture with records := rest } } t
          ∧ RequestTaken 0x14 tag ⟨0x94, tag, match rest with
              | [] => [0x00]
              | y :: _ => 0x01 :: bytes16 y.sequence.toNat⟩ s.link.noticePending s t)
      ∧ (∀ x rest, s.capture.records = x :: rest → x.sequence ≠ n → (∃ y ∈ rest, y.sequence = n) →
          LinkFrame dt s t
          ∧ RequestTaken 0x14 tag ⟨0xFE, tag, [0x14, 0x07] ++ bytes16 x.sequence.toNat⟩ s.link.noticePending s t)
      ∧ ((∀ y ∈ s.capture.records, y.sequence ≠ n) →
          LinkFrame dt s t ∧ RequestTaken 0x14 tag ⟨0xFE, tag, [0x14, 0x08]⟩ s.link.noticePending s t)

/-- A profile load: LOAD_BEGIN opens it at segment 0 with a cleared staging image; LOAD_SEGMENT stores the expected
segment and restarts the timer, any other being refused SEQUENCE with the expected index; LOAD_END is taken by the table
of R158, a good and valid image joining the pending writes, which starts it at once where no write waits or runs;
LOAD_CANCEL, and 10 s without an accepted segment, close it (R155 to R158, R161). While a load is COMMITTING the four are
refused BUSY, as no program sees (R158, R166). -/
def Obligations.ProfileLoadRunsItsTable : Prop :=
  (∀ (dt timer : Nat) (k : Fin 3) (n : Nat) (img : List Byte) (s : State), s.phase = .running →
    s.store.load = .opened k n img timer → timer + 10000000 ≤ s.time + dt →
    exec (.loadTimeout dt) s = .next { s with time := s.time + dt, store := { s.store with load := .closed } })
  ∧ (∀ (dt : Nat) (tag : Byte) (k k' : Fin 3) (b i : Byte) (data : List Byte) (s : State), CanTake s →
    s.store.load = .committing k → b.toNat = k'.val → data.length = 32 →
    (∃ t, exec (requestOf .loadBegin dt ⟨0x20, tag, [b]⟩) s = .next t ∧ LinkFrame dt s t
      ∧ RequestTaken 0x20 tag ⟨0xFE, tag, [0x20, 0x06]⟩ s.link.noticePending s t)
    ∧ (∃ t, exec (requestOf .loadSegment dt ⟨0x21, tag, i :: data⟩) s = .next t ∧ LinkFrame dt s t
      ∧ RequestTaken 0x21 tag ⟨0xFE, tag, [0x21, 0x06]⟩ s.link.noticePending s t)
    ∧ (∃ t, exec (requestOf .loadEnd dt ⟨0x22, tag, []⟩) s = .next t ∧ LinkFrame dt s t
      ∧ RequestTaken 0x22 tag ⟨0xFE, tag, [0x22, 0x06]⟩ s.link.noticePending s t)
    ∧ (∃ t, exec (requestOf .loadCancel dt ⟨0x23, tag, []⟩) s = .next t ∧ LinkFrame dt s t
      ∧ RequestTaken 0x23 tag ⟨0xFE, tag, [0x23, 0x06]⟩ s.link.noticePending s t))
  ∧ ∀ (dt : Nat) (tag : Byte) (s : State), CanTake s → (∀ k, s.store.load ≠ .committing k) →
    (∀ (b : Byte) (k : Fin 3), b.toNat = k.val → ∃ t, exec (requestOf .loadBegin dt ⟨0x20, tag, [b]⟩) s = .next t
      ∧ LinkFrame dt
          { s with store := { s.store with load := .opened k 0 (List.replicate 256 0) (s.time + dt) } } t
      ∧ RequestTaken 0x20 tag ⟨0xA0, tag, [b, 0x00]⟩ s.link.noticePending s t)
    ∧ (∀ b : Byte, 3 ≤ b.toNat → ∃ t, exec (requestOf .loadBegin dt ⟨0x20, tag, [b]⟩) s = .next t ∧ LinkFrame dt s t
      ∧ RequestTaken 0x20 tag ⟨0xFE, tag, [0x20, 0x03, b]⟩ s.link.noticePending s t)
    ∧ (∀ (i : Byte) (data : List Byte), data.length = 32 → ∃ t, exec (requestOf .loadSegment dt ⟨0x21, tag, i :: data⟩) s = .next t
      ∧ (s.store.load = .closed → LinkFrame dt s t ∧ RequestTaken 0x21 tag ⟨0xFE, tag, [0x21, 0x09]⟩ s.link.noticePending s t)
      ∧ (∀ k n img timer, s.store.load = .opened k n img timer →
          (i.toNat = n → n < 8 →
            LinkFrame dt { s with store := { s.store with
              load := .opened k (n + 1) (img.take (32 * n) ++ data ++ img.drop (32 * n + 32)) (s.time + dt) } } t
            ∧ RequestTaken 0x21 tag ⟨0xA1, tag, [BitVec.ofNat 8 (n + 1)]⟩ s.link.noticePending s t)
          ∧ (i.toNat ≠ n ∨ 8 ≤ n →
            LinkFrame dt s t ∧ RequestTaken 0x21 tag ⟨0xFE, tag, [0x21, 0x07, BitVec.ofNat 8 n]⟩ s.link.noticePending s t)))
    ∧ (∃ t, exec (requestOf .loadEnd dt ⟨0x22, tag, []⟩) s = .next t
      ∧ (s.store.load = .closed → LinkFrame dt s t ∧ RequestTaken 0x22 tag ⟨0xFE, tag, [0x22, 0x09]⟩ s.link.noticePending s t)
      ∧ (∀ k n img timer, s.store.load = .opened k n img timer →
          (n < 8 → LinkFrame dt s t ∧ RequestTaken 0x22 tag ⟨0xFE, tag, [0x22, 0x07, BitVec.ofNat 8 n]⟩ s.link.noticePending s t)
          ∧ (8 ≤ n → imageCrcGood img = false →
            LinkFrame dt { s with store := { s.store with load := .closed } } t
            ∧ RequestTaken 0x22 tag ⟨0xFE, tag, [0x22, 0x0A]⟩ s.link.noticePending s t)
          ∧ (∀ f, 8 ≤ n → imageCrcGood img = true → failingField img = some f →
            LinkFrame dt { s with store := { s.store with load := .closed } } t
            ∧ RequestTaken 0x22 tag ⟨0xFE, tag, [0x22, 0x0B, BitVec.ofNat 8 f]⟩ s.link.noticePending s t)
          ∧ (8 ≤ n → imageCrcGood img = true → failingField img = none →
            RequestHeld 0x22 tag s t
            ∧ t.store = { s.store with load := .committing k, slots := s.store.slots.set k .writing }
            ∧ t.nv = startedNv (s.time + dt) (latchesOf t) s.store.directory
                { s.nv with slotPending := some ⟨k, img⟩ }
            ∧ t = { s with time := s.time + dt, store := t.store, nv := t.nv, lines := t.lines, link := t.link })))
    ∧ (∃ t, exec (requestOf .loadCancel dt ⟨0x23, tag, []⟩) s = .next t
      ∧ LinkFrame dt { s with store := { s.store with load := .closed } } t
      ∧ RequestTaken 0x23 tag ⟨0xA3, tag, [0x00]⟩ s.link.noticePending s t)

/-- ACTIVATE of DEFAULT or of a VALID slot replaces the active copy, announces the profile to the four chains, the Site
Monitor, the Fast Mute Unit and the tracker, moves DEFAULT_PROFILE, and with persist sets the directory content and
requests a directory write; an INVALID slot is refused CHECK_FAILED, a WRITING one BUSY, any other designation DESIGNATION
(R149, R159, R160, R161). -/
def Obligations.ActivateAnnouncesProfile : Prop :=
  ∀ (dt : Nat) (tag b persist : Byte) (s : State), CanTake s →
    ∃ t, exec (requestOf .activate dt ⟨0x24, tag, [b, persist]⟩) s = .next t
      ∧ (∀ (d : Designation) (p : Profile),
          (d = .builtIn ∧ b = 0x0F ∧ p = builtInProfile
            ∨ ∃ k img, d = .slot k ∧ b.toNat = k.val ∧ s.store.slots.get k = .valid
                ∧ s.array.slots.get k = .bytes img ∧ p = profileOfImage img) →
          t.store = { s.store with
              active := p, source := d, directory := if persist = 0 then s.store.directory else d }
          ∧ t.nv = (if persist = 0 then s.nv
              else startedNv (s.time + dt) (latchesOf t) d { s.nv with directoryPending := true })
          ∧ t.alarms = { s.alarms with defaultProfile := decide (d = .builtIn) }
          ∧ InboxesOnly (fun _ x => { x with activations := x.activations ++ [p] }) s t
          ∧ t.site = { s.site with activations := s.site.activations ++ [p] }
          ∧ t.fastMute = { s.fastMute with activations := s.fastMute.activations ++ [p] }
          ∧ t.tracker = { s.tracker with activations := s.tracker.activations ++ [p] }
          ∧ t.lines = linesOf t
          ∧ RequestTaken 0x24 tag ⟨0xA4, tag, b :: (p.name ++ bytes16 p.revision
              ++ [if persist = 0 then 0x00 else 0x01])⟩ (raisedFlags none (decide (t.alarms ≠ s.alarms)) false t.time s.link) s t
          ∧ t = { s with
              time := s.time + dt, store := t.store, nv := t.nv, alarms := t.alarms, chains := t.chains
              site := t.site, fastMute := t.fastMute, tracker := t.tracker, lines := t.lines, link := t.link })
      ∧ (∀ (k : Fin 3) (f : Finding), b.toNat = k.val → s.store.slots.get k = .invalid f →
          LinkFrame dt s t ∧ RequestTaken 0x24 tag ⟨0xFE, tag, [0x24, 0x0A]⟩ s.link.noticePending s t)
      ∧ (∀ k : Fin 3, b.toNat = k.val → s.store.slots.get k = .writing →
          LinkFrame dt s t ∧ RequestTaken 0x24 tag ⟨0xFE, tag, [0x24, 0x06]⟩ s.link.noticePending s t)
      ∧ (3 ≤ b.toNat → b ≠ 0x0F →
          LinkFrame dt s t ∧ RequestTaken 0x24 tag ⟨0xFE, tag, [0x24, 0x03, b]⟩ s.link.noticePending s t)

/-- The Control Link's own commands: SET_NOTICES replaces the mask and removes the flags it disables; where a change of a
source and the SET_NOTICES that disables it fall together, no notice of that change is sent, while a message started for
anything earlier is sent on; RESET is accepted with no body; a kind that is no request is refused UNKNOWN_KIND; a frame
that completes while a request is in hand goes to an empty overlap slot, and is discarded by a full one (R166, R169, R171,
R172). That SET_NOTICES takes the six low bits of its byte as the mask and reports those six is assumption 10; that a
notice already started for a flag raised at the very instant of the request is what no notice is sent means, and one for an
earlier flag goes on, is assumption 27. -/
def Obligations.LinkServesItsOwnRequests : Prop :=
  ∀ (dt : Nat) (tag : Byte) (s : State), s.phase = .running → inLinkFrame s = true →
    (s.link.inHand = none →
      (∀ b : Byte, ∃ t, exec (requestOf .setNotices dt ⟨0x30, tag, [b]⟩) s = .next t ∧ LinkFrame dt s t
        ∧ t.link = servedLink
            { s.link with
              receiver := .hunting
              inHand := some ⟨0x30, tag⟩
              reply := some ⟨0xB0, tag, [b &&& 0x3F]⟩
              noticeMask := ⟨Quad.ofFn fun c => b.getLsbD c.val, b.getLsbD 4, b.getLsbD 5⟩
              noticePending :=
                ⟨Quad.ofFn fun c => if b.getLsbD c.val then s.link.noticePending.chains.get c else none,
                  if b.getLsbD 4 then s.link.noticePending.site else none,
                  if b.getLsbD 5 then s.link.noticePending.capture else none⟩
              transmitting :=
                match s.link.transmitting with
                | some ⟨.notice source raised, m, since⟩ =>
                  if raised = s.time + dt ∧ (match source with
                      | .chain c => b.getLsbD c.val
                      | .site => b.getLsbD 4
                      | .capture => b.getLsbD 5) = false then none
                  else some ⟨.notice source raised, m, since⟩
                | line => line } t)
      ∧ (∃ t, exec (requestOf .reset dt ⟨0x3F, tag, []⟩) s = .next t ∧ LinkFrame dt s t
        ∧ RequestTaken 0x3F tag ⟨0xBF, tag, []⟩ s.link.noticePending s t)
      ∧ (∀ (kind : Byte) (body : List Byte), kind ∉ requestKinds → body.length ≤ 248 →
          ∃ t, exec (.unknownKind dt (frameHead ⟨kind, tag, body⟩) body (frameCrc ⟨kind, tag, body⟩)) s = .next t ∧ LinkFrame dt s t
            ∧ RequestTaken kind tag ⟨0xFE, tag, [kind, 0x01]⟩ s.link.noticePending s t))
    ∧ (∀ (h : InHand) (kind : Byte) (body : List Byte), s.link.inHand = some h → body.length ≤ 248 →
      exec (.overlapFrame dt (frameHead ⟨kind, tag, body⟩) body (frameCrc ⟨kind, tag, body⟩)) s = .next { s with
        time := s.time + dt
        link := { s.link with
          receiver := .hunting
          overlap := match s.link.overlap with
            | some o => some o
            | none => some ⟨kind, tag, false⟩ } })

/-- When a message's last byte has been sent the line is free: after a reply the request in hand is gone and the overlap
slot's BUSY refusal waits; after a BUSY refusal the slot is empty; after a notice nothing else has changed. What starts next
is the BUSY refusal once it waits, else the waiting reply, else a pending notice, chains 0 to 3 first, then the site, then
the Capture Queue (R166, R170, R171). After RESET's acceptance nothing starts (R172); that the part then stands due to
reset until the reset's own command comes is assumption 7. -/
def Obligations.TransmitLineServesInOrder : Prop :=
  ∀ (dt since : Nat) (item : TxItem) (m : Message) (s : State), s.phase = .running →
    s.link.transmitting = some ⟨item, m, since⟩ →
    (m.body.length + 6) * 10 * 1000000 ≤ (s.time + dt - since) * lineRate s.link →
    ∃ t free, exec (.transmitComplete dt) s = .next t
      ∧ t = { s with time := s.time + dt, phase := t.phase, lines := t.lines, link := t.link }
      ∧ t.lines = linesOf t
      ∧ free = { s.link with
          transmitting := none
          inHand := if item = .reply then none else s.link.inHand
          overlap :=
            match item with
            | .reply => s.link.overlap.map fun o => { o with ready := true }
            | .busy => none
            | .notice _ _ => s.link.overlap }
      ∧ if item = .reply ∧ m.kind = 0xBF then t.phase = .resetDue ∧ t.link = free
        else t.phase = .running ∧ t.link = servedLink free t

/-! ## Arithmetic (chapter 3) -/

/-- Conditioning keeps every reading in its range, F and Q within 20,000, FF and FQ within 60,000, the temperatures within
−400 to 1250 and Pgas within 2000, and exactly the readings it changes or an overrange flag forces join the limited set, by
their field numbers (R31, R32). The foldback line is 1000 up to its start value, its floor and the trip condition from its
trip value on, and between them 1000 less the floored share of the fall, above a floor below 1000 (R47). The thermal band
rises only at the next lower edge plus H and falls only below the present lower edge (R50). Θ is C_A in band A and with no
Tout held; in B, C and D it is the band's ceiling less the floored tenth of its gradient times the rise above its lower
edge, and never below 0 (R52). The limiter is the first component, in the order set-point, cap, mismatch, thermal, site,
blind, that equals P (R57). -/
def Obligations.ReadingsLinesAndBandsKeepTheirBounds : Prop :=
  (∀ (forced : Bool) (raw : Word16) (top : Nat),
    (conditionUnsigned forced raw top).value = (if forced then top else min raw.toNat top)
    ∧ ((conditionUnsigned forced raw top).limited = true ↔ forced = true ∨ top < raw.toNat))
  ∧ (∀ (forced : Bool) (raw : Word16),
    (conditionTemperature forced raw).value = (if forced then 1250 else max (-400) (min 1250 raw.toInt))
    ∧ ((conditionTemperature forced raw).limited = true ↔ forced = true ∨ raw.toInt < -400 ∨ 1250 < raw.toInt))
  ∧ (∀ (header : Word16) (fields : List Word16),
    ((conditionChain header fields).1 =
        ⟨(conditionUnsigned (header.getLsbD 11) (fields.getD 0 0) 20000).value,
          (conditionUnsigned (header.getLsbD 10) (fields.getD 1 0) 20000).value,
          (conditionTemperature (header.getLsbD 9) (fields.getD 2 0)).value⟩)
    ∧ (∀ n, n ∈ (conditionChain header fields).2 ↔
        n = 1 ∧ (header.getLsbD 11 = true ∨ 20000 < (fields.getD 0 0).toNat)
        ∨ n = 2 ∧ (header.getLsbD 10 = true ∨ 20000 < (fields.getD 1 0).toNat)
        ∨ n = 3 ∧ (header.getLsbD 9 = true ∨ (fields.getD 2 0).toInt < -400 ∨ 1250 < (fields.getD 2 0).toInt))
    ∧ (conditionSite header fields).1 =
        ⟨(conditionUnsigned (header.getLsbD 11) (fields.getD 0 0) 60000).value,
          (conditionUnsigned (header.getLsbD 10) (fields.getD 1 0) 60000).value,
          (conditionTemperature (header.getLsbD 9) (fields.getD 2 0)).value,
          (conditionUnsigned (header.getLsbD 8) (fields.getD 3 0) 2000).value⟩
    ∧ (∀ n, n ∈ (conditionSite header fields).2 ↔
        n = 1 ∧ (header.getLsbD 11 = true ∨ 60000 < (fields.getD 0 0).toNat)
        ∨ n = 2 ∧ (header.getLsbD 10 = true ∨ 60000 < (fields.getD 1 0).toNat)
        ∨ n = 3 ∧ (header.getLsbD 9 = true ∨ (fields.getD 2 0).toInt < -400 ∨ 1250 < (fields.getD 2 0).toInt)
        ∨ n = 4 ∧ (header.getLsbD 8 = true ∨ 2000 < (fields.getD 3 0).toNat)))
  ∧ (∀ (x s t : Int) (f : Nat), s < t → f ≤ 1000 →
    (x ≤ s → foldback x s t f = 1000)
    ∧ (s < x → x < t → (foldback x s t f : Int) = 1000 - (x - s) * (1000 - f) / (t - s)
        ∧ (f < 1000 → f < foldback x s t f))
    ∧ (t ≤ x → foldback x s t f = f)
    ∧ (foldbackTrips x t = true ↔ t ≤ x)
    ∧ f ≤ foldback x s t f ∧ foldback x s t f ≤ 1000)
  ∧ (∀ (p : Profile) (band : Band) (t : Int), p.e1 + p.h < p.e2 → p.e2 + p.h < p.e3 → 1 ≤ p.h →
    (bandCode band < bandCode (bandUpdate p band t) →
      (bandUpdate p band t = .b → p.e1 + p.h ≤ t) ∧ (bandUpdate p band t = .c → p.e2 + p.h ≤ t)
      ∧ (bandUpdate p band t = .d → p.e3 + p.h ≤ t))
    ∧ (bandCode (bandUpdate p band t) < bandCode band →
      (band = .b → t < p.e1) ∧ (band = .c → t < p.e2) ∧ (band = .d → t < p.e3))
    ∧ (bandUpdate p band t = .a → t < p.e1 + p.h) ∧ (bandUpdate p band t = .b → p.e1 ≤ t ∧ t < p.e2 + p.h)
    ∧ (bandUpdate p band t = .c → p.e2 ≤ t ∧ t < p.e3 + p.h) ∧ (bandUpdate p band t = .d → p.e3 ≤ t))
  ∧ (∀ (p : Profile) (band : Band) (t : Int),
    thermalCeiling p band none = p.cA ∧ thermalCeiling p .a (some t) = p.cA
    ∧ (thermalCeiling p .b (some t) : Int) = max 0 (p.cB - p.gB * max 0 (t - p.e1) / 10)
    ∧ (thermalCeiling p .c (some t) : Int) = max 0 (p.cC - p.gC * max 0 (t - p.e2) / 10)
    ∧ (thermalCeiling p .d (some t) : Int) = max 0 (p.cD - p.gD * max 0 (t - p.e3) / 10))
  ∧ (∀ (r : ChainRecord) (v : Nat),
    v = min r.setPoint (min r.cap (min r.mismatch (min r.thermal (min r.site r.blind)))) →
    (firstLimiter r v = .setpoint ↔ r.setPoint = v)
    ∧ (firstLimiter r v = .cap ↔ r.setPoint ≠ v ∧ r.cap = v)
    ∧ (firstLimiter r v = .mismatch ↔ r.setPoint ≠ v ∧ r.cap ≠ v ∧ r.mismatch = v)
    ∧ (firstLimiter r v = .thermal ↔ r.setPoint ≠ v ∧ r.cap ≠ v ∧ r.mismatch ≠ v ∧ r.thermal = v)
    ∧ (firstLimiter r v = .site ↔ r.setPoint ≠ v ∧ r.cap ≠ v ∧ r.mismatch ≠ v ∧ r.thermal ≠ v ∧ r.site = v)
    ∧ (firstLimiter r v = .blind ↔
        r.setPoint ≠ v ∧ r.cap ≠ v ∧ r.mismatch ≠ v ∧ r.thermal ≠ v ∧ r.site ≠ v ∧ r.blind = v))

/-! ## What crosses the wires, and what is stored (chapters 2, 8, 9, 10) -/

/-- A level word is Table 8-3's four bytes. The bus carries the word of the transfer in flight, or early in start-up the
word of level 0 for chain 0, 1, 2 and 3 in turn, most significant bit first, LDATA set as LCLK falls and held as it rises,
and idles with LCLK high and LDATA low for the last four of the 36 bit periods, between transfers, in reset, and in
start-up before and after the zeroing (R141, R144); when the zeroing begins is assumption 26, and that a bit period's two
halves are equal is assumption 20. A word of the sample link is its bits, the most
significant first (R26). A character of the control link is a start bit, 8 data bits least significant first and a stop
bit; CTXD carries a message's characters one bit time after another and idles at the stop level (R164). A message's frame
is 0xC3, its length, kind, tag, body and CRC, and is read back from its bytes (R165). -/
def Obligations.WiresCarryTheirWords : Prop :=
  (∀ (c : ChainNo) (v : Nat), v < 65536 → ∃ b1 b2 b3 : Byte, levelWord c v = [b1, b2, b3, ~~~(b1 ^^^ b2 ^^^ b3)]
    ∧ b1.toNat = 0xA0 + c.val ∧ 256 * b2.toNat + b3.toNat = v)
  ∧ (∀ (s : State) (k : Fin 6),
    (∀ t half, (s.phase = .running ∨ s.phase = .resetDue) → s.levelBus.inFlight = some t →
      half = 6 * (s.time - t.started) + k.val →
      busLines s k = if half < 64 then
          ⟨decide (half % 2 = 1), (byteAt (levelWord t.chain t.level) (half / 16)).getMsbD (half / 2 % 8)⟩
        else ⟨true, false⟩)
    ∧ (∀ began start, s.phase = .startUp began → start = began + Config.zeroingDelay →
      (s.time < start → busLines s k = ⟨true, false⟩)
      ∧ (∀ (c : ChainNo) half, start ≤ s.time → c.val = (s.time - start) / 12 → half = 6 * ((s.time - start) % 12) + k.val →
        busLines s k = if half < 64 then
            ⟨decide (half % 2 = 1), (byteAt (levelWord c 0) (half / 16)).getMsbD (half / 2 % 8)⟩
          else ⟨true, false⟩)
      ∧ (start + 48 ≤ s.time → busLines s k = ⟨true, false⟩))
    ∧ ((s.phase = .running ∨ s.phase = .resetDue) → s.levelBus.inFlight = none → busLines s k = ⟨true, false⟩)
    ∧ ((s.phase = .held ∨ s.phase = .unpowered) → busLines s k = ⟨true, false⟩))
  ∧ (∀ w : Word16, (bitsOfWord w).length = 16 ∧ ∀ k, k < 16 → (bitsOfWord w)[k]? = some (w.getLsbD (15 - k)))
  ∧ (∀ (ws : List Word16) (rest : List Bool), rest.length < 16 → wordsOf (bitsOfWords ws ++ rest) = (ws, rest))
  ∧ (∀ b : Byte, characterBits b = [false, b.getLsbD 0, b.getLsbD 1, b.getLsbD 2, b.getLsbD 3, b.getLsbD 4, b.getLsbD 5,
      b.getLsbD 6, b.getLsbD 7, true])
  ∧ (∀ s : State, (s.link.transmitting = none → ctxdLevel s = true)
    ∧ ∀ t n, s.link.transmitting = some t → n = (s.time - t.started) * lineRate s.link / 1000000 →
      ctxdLevel s =
        if n < 10 * (frameBytes t.message).length then
          (characterBits (byteAt (frameBytes t.message) (n / 10))).getD (n % 10) true
        else true)
  ∧ (∀ l : ControlLink, lineRate l =
      if l.bsel1 then (if l.bsel0 then 230400 else 115200) else (if l.bsel0 then 57600 else 19200))
  ∧ (∀ m : Message, m.body.length ≤ 248 →
    ∃ n c1 c2 : Byte, n.toNat = m.body.length + 2
      ∧ frameBytes m = 0xC3 :: n :: m.kind :: m.tag :: (m.body ++ [c1, c2])
      ∧ 256 * c1.toNat + c2.toNat = (crc16 (n :: m.kind :: m.tag :: m.body)).toNat
      ∧ frameBytes m = 0xC3 :: frameTail m ∧ readFrame (frameTail m) = some m)

/-- Request taking checks a request in the order of R166. A body of another length than Table 10-2's is refused BAD_LENGTH
with the length expected, for each of the 19 kinds; a chain above 3, a slot above 2 in LOAD_BEGIN and a designation that
names none in ACTIVATE are refused DESIGNATION with the value refused; neither changes any other block. A request that
arrives while another is in hand, whatever its kind and body, goes to the empty overlap slot as its kind and tag, and is
discarded by a full one (R166). -/
def Obligations.RequestsAreCheckedInOrder : Prop :=
  ∀ (dt : Nat) (tag : Byte) (s : State), s.phase = .running → inLinkFrame s = true →
    (s.link.inHand = none →
      (∀ command kind length, (command, kind, length) ∈ requestTable → ∀ body : List Byte, body.length ≤ 248 →
        body.length ≠ length → ∃ t, exec (requestOf command dt ⟨kind, tag, body⟩) s = .next t ∧ LinkFrame dt s t
          ∧ RequestTaken kind tag ⟨0xFE, tag, [kind, 0x02, BitVec.ofNat 8 length]⟩ s.link.noticePending s t)
      ∧ (∀ command kind length, (command, kind, length) ∈ chainRequestTable → ∀ (b : Byte) (rest : List Byte),
        (b :: rest).length = length → 4 ≤ b.toNat →
        ∃ t, exec (requestOf command dt ⟨kind, tag, b :: rest⟩) s = .next t ∧ LinkFrame dt s t
          ∧ RequestTaken kind tag ⟨0xFE, tag, [kind, 0x03, b]⟩ s.link.noticePending s t)
      ∧ (∀ b : Byte, 3 ≤ b.toNat → ∃ t, exec (requestOf .loadBegin dt ⟨0x20, tag, [b]⟩) s = .next t ∧ LinkFrame dt s t
          ∧ RequestTaken 0x20 tag ⟨0xFE, tag, [0x20, 0x03, b]⟩ s.link.noticePending s t)
      ∧ (∀ b persist : Byte, 3 ≤ b.toNat → b ≠ 0x0F →
        ∃ t, exec (requestOf .activate dt ⟨0x24, tag, [b, persist]⟩) s = .next t ∧ LinkFrame dt s t
          ∧ RequestTaken 0x24 tag ⟨0xFE, tag, [0x24, 0x03, b]⟩ s.link.noticePending s t))
    ∧ (∀ (h : InHand) command kind length, (command, kind, length) ∈ requestTable → ∀ body : List Byte,
      s.link.inHand = some h → body.length ≤ 248 →
      exec (requestOf command dt ⟨kind, tag, body⟩) s = .next { s with
        time := s.time + dt
        link := { s.link with
          receiver := .hunting
          overlap := match s.link.overlap with
            | some o => some o
            | none => some ⟨kind, tag, false⟩ } })

/-- Validation of a 256-byte image finds the first of the fields 1 to 73 that fails its test, in ascending order, and none
where every field passes; a profile is valid where fields 1 to 72 pass (R152). The image's CRC is good where bytes 254 and
255 hold the CRC-16 of the bytes before them (R153). A slot that holds an image is INVALID with finding CRC where the CRC is
bad, else INVALID with the failing field, else VALID; what a cut-off write left is INVALID with finding CRC (R153, R155,
R161). The built-in default is valid (R154). -/
def Obligations.ImagesAreValidatedFieldByField : Prop :=
  (∀ img : List Byte, img.length = 256 →
    (∀ n, failingField img = some n ↔
      1 ≤ n ∧ n ≤ 73 ∧ ¬ FieldPasses img n ∧ ∀ m, 1 ≤ m → m < n → FieldPasses img m)
    ∧ (failingField img = none ↔ ∀ n, 1 ≤ n → n ≤ 73 → FieldPasses img n)
    ∧ (profileValid (profileOfImage img) = true ↔ ∀ n, 1 ≤ n → n ≤ 72 → FieldPasses img n)
    ∧ (imageCrcGood img = true ↔
        256 * (byteAt img 254).toNat + (byteAt img 255).toNat = (crc16 (img.take 254)).toNat)
    ∧ (imageCrcGood img = false → slotStateOf (.bytes img) = .invalid .crc)
    ∧ (imageCrcGood img = true → ∀ n, failingField img = some n → slotStateOf (.bytes img) = .invalid (.field n))
    ∧ (imageCrcGood img = true → failingField img = none → slotStateOf (.bytes img) = .valid))
  ∧ slotStateOf .torn = .invalid .crc ∧ profileValid builtInProfile = true

/-- A presence mask has bit k of its bytes for its k-th flag and its unused bits zero; a set of checks is two bytes with
bit n for code n (R167, Table 10-5). The replies to the reads carry the fields of Table 10-2, each absent one as zeros of
its width: the chain record, the site record, the tracker record, the trip list, the capture record and the store
(R113, R123, R138, R155); the three notices carry those of R170. The widths, the units and the places that the tables do
not give are assumption 10, the rounding of a time left is assumption 12, and a capture record's weight and class going
unsent is assumption 24. -/
def Obligations.BodiesCarryTheirFields : Prop :=
  (∀ (flags : List Bool) (k : Nat), (presenceMask flags).length = (flags.length + 7) / 8
    ∧ (byteAt (presenceMask flags) (k / 8)).getLsbD (k % 8) = flags.getD k false)
  ∧ (∀ set : List Check, ∃ hi lo : Byte, checksBytes set = [hi, lo]
    ∧ ∀ k x, [Check.chainFresh, .siteFresh, .temp, .flow, .arcClear, .surgeClear, .interlock, .siteOk, .latch][k]? = some x →
      ((if k < 8 then lo else hi).getLsbD (k % 8) = true ↔ x ∈ set))
  ∧ ([ChainState.disabled, .qualify, .ramp, .active, .classify, .holdoff, .lockout].map stateCode = List.range 7
    ∧ [Limiter.setpoint, .cap, .mismatch, .thermal, .site, .blind].map limiterCode = List.range 6
    ∧ [TripCause.arcConfirmed, .arcFlash, .surge, .reflAbs, .mismatch, .overtemp, .flowLoss, .measLost, .feederMismatch,
        .rejectOvertemp, .siteMeasLost, .interlock].map causeCode = List.range 12)
  ∧ (∀ (s : State) (c : ChainNo),
    let l := (recordOf s c).tripList
    tripsBody s c = [BitVec.ofNat 8 l.length, BitVec.ofNat 8 (weightSum l)] ++ l.flatMap fun e =>
      bytes32 e.tripTime.toNat ++ bytes32 (siteClock s - e.tripTime).toNat
        ++ [BitVec.ofNat 8 (causeCode e.cause), BitVec.ofNat 8 (causeWeight e.cause)])
  ∧ (∀ s : State,
    let t := s.tracker
    let ends := bytes16 t.markers ++ bytes16 t.strays ++ bytes16 t.virtuals ++ bytes16 t.fallbacks ++ bytes16 t.locks
      ++ bytes16 t.losses ++ bytes16 t.tn
    (∀ previous good due, t.mode = .search previous good due →
      timingBody s = presenceMask [previous.isSome, true, true, false, false, false]
        ++ 0x00 :: (bytes32 (10 * t.tn) ++ bytes32 (10 * t.tn / 8) ++ bytes32 t.lastTick.toNat
          ++ optBytes 4 (fun m => bytes32 m.toNat) previous ++ BitVec.ofNat 8 good :: bytes32 due.toNat
          ++ List.replicate 9 0x00 ++ ends))
    ∧ (∀ pe misses, t.mode = .locked pe misses →
      timingBody s = presenceMask [false, false, false, true, true, true]
        ++ 0x01 :: (bytes32 (10 * t.tn) ++ bytes32 (10 * t.tn / 8) ++ bytes32 t.lastTick.toNat ++ List.replicate 9 0x00
          ++ bytes32 pe ++ bytes32 (pe / 16) ++ BitVec.ofNat 8 misses :: ends)))
  ∧ (∀ q : QueuedRecord,
    let x := q.record
    let y := x.chainPart
    let held := y.bind (·.readings)
    let ratio := y.bind (·.ratio)
    captureBytes q = presenceMask [y.isSome, x.firstInput.isSome, x.arcLine.isSome, y.isSome, y.isSome, y.isSome, y.isSome,
        held.isSome, held.isSome, ratio.isSome, held.isSome, y.isSome, y.isSome, y.isSome]
      ++ bytes16 q.sequence.toNat ++ bytesFlag q.gap ++ optBytes 1 (fun z => bytes8 z.chain.val) y
      ++ bytes8 (causeCode x.cause) ++ optBytes 1 (fun i => bytes8 (inputCode i)) x.firstInput
      ++ optBytes 1 (fun k => bytes8 k.val) x.arcLine ++ bytes32 x.tripTime.toNat
      ++ optBytes 1 (fun z => bytes8 (runCode z.stateAtTrip)) y ++ optBytes 2 (fun z => bytes16 z.applied) y
      ++ optBytes 2 (fun z => bytes16 z.permitted) y ++ optBytes 1 (fun z => bytes8 (limiterCode z.limiter)) y
      ++ optBytes 2 (fun z => bytes16 z.forward) held ++ optBytes 2 (fun z => bytes16 z.reflected) held
      ++ optBytes 2 bytes16 ratio ++ optBytes 2 (fun z => bytesSigned16 z.tout) held
      ++ optBytes 1 (fun z => bytes8 (bandCode z.band)) y ++ optBytes 2 (fun z => bytes16 z.flowRate) y
      ++ bytes16 x.siteCeiling ++ bytes8 (trackerCode x.tracker) ++ optBytes 1 (fun z => bytes8 z.weightSum) y)
  ∧ (∀ s : State,
    let r := s.site.record
    let x := r.readings
    let last := s.intake.siteGroup.last
    let n := s.intake.statistics
    siteBody s = presenceMask [x.isSome, x.isSome, x.isSome, x.isSome, r.ratio.isSome, r.filterSince.isSome,
        r.filterSince.isSome, last.isSome]
      ++ optBytes 2 (fun z => bytes16 z.forward) x ++ optBytes 2 (fun z => bytes16 z.reflected) x
      ++ optBytes 2 (fun z => bytesSigned16 z.trej) x ++ optBytes 2 (fun z => bytes16 z.pgas) x
      ++ optBytes 2 bytes16 r.ratio ++ bytes16 r.feederLine ++ bytes16 r.rejectLine ++ bytesFlag r.lowPressure
      ++ bytes16 r.pressureCap ++ bytes16 r.evaluated ++ bytes16 r.ceiling ++ bytesFlag r.feederTrip
      ++ bytesFlag r.rejectTrip ++ bytes8 (freshnessCode r.freshness) ++ bytes8 (interlockCode r.interlock)
      ++ optBytes 1 (fun _ => bytesFlag s.pins.ilk) r.filterSince
      ++ optBytes 4 (fun since => bytes32 ((s.time - since) / 1000)) r.filterSince
      ++ optBytes 1 (fun z => limitedBytes z.limited) last
      ++ n.acceptedChain.toList.flatMap bytes16 ++ bytes16 n.acceptedSite ++ bytes16 n.check ++ bytes16 n.group
      ++ bytes16 n.short ++ bytes16 n.fault ++ bytes16 n.duplicate
      ++ alarmBytes s.alarms ++ [maskByte s.pins.surges.toList, maskByte s.pins.arcs.toList]
      ++ s.fastMute.arcs.toList.flatMap (fun l => bytes16 l.count)
      ++ s.fastMute.surges.toList.flatMap fun l => bytes16 l.count)
  ∧ (∀ (s : State) (c : ChainNo),
    let r := recordOf s c
    let x := r.readings
    let failures := match r.mode with | .qualify set => some set | _ => none
    let cause := match r.mode with | .classify k _ _ => some k | .holdoff k _ => some k | _ => none
    let dwell := match r.mode with | .holdoff _ d => some d | _ => none
    let snap := match r.mode with | .classify _ z _ => some z | _ => none
    let window := match r.mode with | .classify _ _ ends => some ends | _ => none
    let runOn := match r.mode with | .disabled ends => ends | _ => none
    let last := (s.intake.chainGroup.get c).last
    chainBody s c = presenceMask [x.isSome, x.isSome, r.ratio.isSome, x.isSome, failures.isSome, cause.isSome, dwell.isSome,
        dwell.isSome, runOn.isSome, snap.isSome, (snap.bind (·.arcLine)).isSome, last.isSome,
        (s.levelBus.pending.get c).isSome, window.isSome]
      ++ bytes8 (stateCode (modeState r.mode)) ++ bytes16 r.setPoint ++ bytes16 r.cap ++ bytes16 r.mismatch
      ++ bytes16 r.thermal ++ bytes16 r.site ++ bytes16 r.blind ++ bytes16 r.permitted ++ bytes16 r.applied
      ++ bytes8 (limiterCode r.limiter) ++ optBytes 2 (fun z => bytes16 z.forward) x
      ++ optBytes 2 (fun z => bytes16 z.reflected) x ++ optBytes 2 bytes16 r.ratio
      ++ optBytes 2 (fun z => bytesSigned16 z.tout) x ++ bytes8 (bandCode r.band) ++ bytes8 (freshnessCode r.freshness)
      ++ bytes16 r.flowRate ++ optBytes 2 checksBytes failures ++ optBytes 1 (fun k => bytes8 (causeCode k)) cause
      ++ optBytes 4 (fun d => bytes32 ((d.startedAt + d.lengths.time * 10000 - s.time + 999) / 1000)) dwell
      ++ optBytes 1 (fun d => bytes8 d.ticksLeft) dwell ++ bytes8 r.tripList.length
      ++ r.tripList.flatMap (fun e =>
          bytes32 e.tripTime.toNat ++ bytes8 (causeCode e.cause) ++ bytes8 (causeWeight e.cause))
      ++ bytesFlag r.latch ++ optBytes 4 (fun ends => bytes32 ((ends - s.time + 999) / 1000)) runOn
      ++ bytesFlag (s.lines.cooling.get c) ++ optBytes 1 (fun z => bytes8 (inputCode z.firstInput)) snap
      ++ optBytes 1 (fun k => bytes8 k.val) (snap.bind (·.arcLine)) ++ optBytes 1 (fun z => limitedBytes z.limited) last
      ++ bytes16 (s.levelBus.lastSent.get c) ++ optBytes 2 bytes16 (s.levelBus.pending.get c)
      ++ optBytes 2 (fun ends => bytes16 (ends - s.time)) window)
  ∧ (∀ s : State,
    let shown (k : Fin 3) : Option Profile := match s.store.slots.get k, s.array.slots.get k with
      | .valid, .bytes img => some (profileOfImage img)
      | _, _ => none
    let finding (k : Fin 3) : Option Finding := match s.store.slots.get k with
      | .invalid f => some f
      | _ => none
    let slot (k : Fin 3) : List Byte := bytes8 (slotStateCode (s.store.slots.get k))
      ++ optBytes 12 (·.name) (shown k) ++ optBytes 2 (fun p => bytes16 p.revision) (shown k)
      ++ optBytes 2 findingBytes (finding k)
    let target : Option (Fin 3) := match s.store.load with
      | .opened k _ _ _ => some k
      | .committing k => some k
      | .closed => none
    let expected : Option Nat := match s.store.load with | .opened _ n _ _ => some n | _ => none
    let writes (f : NvWork → Bool) : List Byte := bytesFlag (s.nv.inProgress.any fun w => f w.work)
    storeBody s = presenceMask (([0, 1, 2].flatMap fun k => [(shown k).isSome, (shown k).isSome, (finding k).isSome])
        ++ [target.isSome, expected.isSome])
      ++ slot 0 ++ slot 1 ++ slot 2 ++ bytes8 (loadCode s.store.load) ++ optBytes 1 (fun k => bytes8 k.val) target
      ++ optBytes 1 bytes8 expected ++ bytes8 (designationCode s.store.directory)
      ++ bytesFlag s.nv.lockoutPending ++ writes (fun w => match w with | .lockout _ => true | _ => false)
      ++ bytesFlag s.nv.directoryPending ++ writes (fun w => match w with | .directory _ => true | _ => false)
      ++ bytesFlag s.nv.slotPending.isSome ++ writes (fun w => match w with | .slot _ => true | _ => false)
      ++ bytesFlag s.alarms.directoryFault ++ bytesFlag s.alarms.lockoutRecordFault
      ++ [maskByte (latchesOf s).toList])
  ∧ (∀ (s : State) (c : ChainNo),
    let r := recordOf s c
    let cause := match r.mode with | .classify k _ _ => some k | .holdoff k _ => some k | _ => none
    chainNotice s c = ⟨0x70, 0x00, presenceMask [cause.isSome] ++ bytes8 c.val ++ bytes8 (stateCode (modeState r.mode))
      ++ bytes8 (limiterCode r.limiter) ++ bytes16 r.permitted ++ bytes16 r.applied
      ++ optBytes 1 (fun k => bytes8 (causeCode k)) cause⟩)
  ∧ (∀ s : State,
    siteNotice s = ⟨0x71, 0x00, bytes8 (freshnessCode s.site.record.freshness)
      ++ bytes8 (interlockCode s.site.record.interlock) ++ bytesFlag s.site.record.feederTrip
      ++ bytesFlag s.site.record.rejectTrip ++ alarmBytes s.alarms⟩
    ∧ alarmBytes s.alarms = [maskByte [s.alarms.lockoutChains.q0 || s.alarms.lockoutChains.q1
        || s.alarms.lockoutChains.q2 || s.alarms.lockoutChains.q3, s.alarms.siteLost, s.alarms.defaultProfile,
        s.alarms.directoryFault, s.alarms.lockoutRecordFault], maskByte s.alarms.lockoutChains.toList])
  ∧ (∀ s : State, (s.capture.records = [] → captureNotice s = ⟨0x72, 0x00, List.replicate 7 0x00⟩)
    ∧ ∀ x pre y, s.capture.records = pre ++ [y] → (pre ++ [y]).head? = some x →
      captureNotice s = ⟨0x72, 0x00, [0x07, BitVec.ofNat 8 (pre.length + 1)] ++ bytes16 x.sequence.toNat
        ++ bytes16 y.sequence.toNat ++ bytesFlag y.gap⟩)

/-! ## Invariants -/

/-- The state after reset, whose values the spec leaves open are the model's own (assumption 5), meets every invariant
below. -/
def Obligations.ResetMeetsInvariants : Prop :=
  PartSafe State.reset ∧ CaptureSafe State.reset ∧ BusSafe State.reset ∧ TrackerSafe State.reset
    ∧ StoreSafe State.reset ∧ ProfilesSafe State.reset ∧ TripsSafe State.reset

/-- Every step keeps the part safe: outside RAMP and ACTIVE a chain's A is 0 and its inhibit asserted, inside them A is at
most P, P is the least component, a set latch means LOCKOUT or DISABLED and LOCKOUT a set latch, and the lines and alarm
reasons follow the chains. So a chain's inhibit line is released exactly while the part runs or is due to reset and the
chain is in RAMP or ACTIVE; its cooling-demand line is then asserted; and where the inhibit is asserted A is 0 (R6, R14,
R57, R117, R145, R147, R149). That a line may stand released while the part is due to reset, between the
acceptance's last byte and the reset's command, is assumption 7. -/
def Obligations.StepKeepsPartSafe : Prop :=
  ∀ s t : State, PartSafe s → step s = .next t → PartSafe t
    ∧ ∀ c,
      (t.lines.inhibit.get c = false ↔
        (t.phase = .running ∨ t.phase = .resetDue) ∧ (runState (recordOf t c).mode).isSome = true)
      ∧ (t.lines.inhibit.get c = false → t.lines.cooling.get c = true)
      ∧ (t.phase = .running → t.lines.inhibit.get c = true → (recordOf t c).applied = 0)

/-- Every step of a safe part keeps the level bus in agreement with the chains: what a stage will hold is its chain's A,
and nothing waits while the bus is free (R140, R142, R144). -/
def Obligations.StepKeepsBusSafe : Prop :=
  ∀ s t : State, BusSafe s → PartSafe s → step s = .next t → BusSafe t

/-- Every step keeps the Capture Queue within 16 consecutive records (R120), and the tracker's estimate within τ of Tnu
with fewer than 8 missed windows (R130, R132, R134). -/
def Obligations.StepKeepsQueueAndTracker : Prop :=
  ∀ s t : State, step s = .next t → (CaptureSafe s → CaptureSafe t) ∧ (TrackerSafe s → TrackerSafe t)

/-- Every step keeps the NV Controller's and the load's states in agreement (R155, R161), and with them keeps every active
and announced profile the default or that of an image with a good CRC that passed validation, at every block that reads the
profile and in every announcement not yet taken, and every VALID slot's image such an image (R152, R155). -/
def Obligations.StepKeepsStoreAndProfiles : Prop :=
  ∀ s t : State, StoreSafe s → step s = .next t → StoreSafe t ∧ (ProfilesSafe s → ProfilesSafe t)

/-- With valid profiles, every step keeps each recent trip list at no more than 8 entries of weight 1 or 2, and at no more
than 7 where a trip may yet find the chain (R113). -/
def Obligations.StepKeepsTripListsBounded : Prop :=
  ∀ s t : State, ProfilesSafe s → TripsSafe s → step s = .next t → TripsSafe t

end Statements
end

