-- ==== Sys2Proof/Laws/Tables.lean ====
section
/-! SUPPORT. Reading and writing the tables of four chains, eight lines and three slots. -/

namespace Sys2Proof

/-- A property of every chain is four properties. -/
theorem forall_chain {p : ChainNo → Prop} : (∀ c, p c) ↔ p 0 ∧ p 1 ∧ p 2 ∧ p 3 := by
  constructor
  · intro h
    exact ⟨h 0, h 1, h 2, h 3⟩
  · rintro ⟨h0, h1, h2, h3⟩ c
    match c with
    | 0 => exact h0
    | 1 => exact h1
    | 2 => exact h2
    | 3 => exact h3

@[simp] theorem Quad.get_set_same {α : Type} (q : Quad α) (c : ChainNo) (a : α) : (q.set c a).get c = a := by
  match c with
  | 0 => rfl
  | 1 => rfl
  | 2 => rfl
  | 3 => rfl

theorem Quad.get_set_other {α : Type} (q : Quad α) {c d : ChainNo} (a : α) (h : d ≠ c) :
    (q.set c a).get d = q.get d := by
  match c, d with
  | 0, 0 => exact absurd rfl h
  | 0, 1 => rfl
  | 0, 2 => rfl
  | 0, 3 => rfl
  | 1, 0 => rfl
  | 1, 1 => exact absurd rfl h
  | 1, 2 => rfl
  | 1, 3 => rfl
  | 2, 0 => rfl
  | 2, 1 => rfl
  | 2, 2 => exact absurd rfl h
  | 2, 3 => rfl
  | 3, 0 => rfl
  | 3, 1 => rfl
  | 3, 2 => rfl
  | 3, 3 => exact absurd rfl h

theorem Quad.get_set {α : Type} (q : Quad α) (c d : ChainNo) (a : α) :
    (q.set c a).get d = if d = c then a else q.get d := by
  by_cases h : d = c
  · subst h
    simp
  · simp [h, Quad.get_set_other q a h]

@[simp] theorem Quad.set_set {α : Type} (q : Quad α) (c : ChainNo) (a b : α) : (q.set c a).set c b = q.set c b := by
  match c with
  | 0 => rfl
  | 1 => rfl
  | 2 => rfl
  | 3 => rfl

@[simp] theorem Quad.set_get {α : Type} (q : Quad α) (c : ChainNo) : q.set c (q.get c) = q := by
  match c with
  | 0 => rfl
  | 1 => rfl
  | 2 => rfl
  | 3 => rfl

@[simp] theorem Quad.get_fill {α : Type} (a : α) (c : ChainNo) : (Quad.fill a).get c = a := by
  match c with
  | 0 => rfl
  | 1 => rfl
  | 2 => rfl
  | 3 => rfl

@[simp] theorem Quad.get_map {α β : Type} (f : α → β) (q : Quad α) (c : ChainNo) : (q.map f).get c = f (q.get c) := by
  match c with
  | 0 => rfl
  | 1 => rfl
  | 2 => rfl
  | 3 => rfl

@[simp] theorem Quad.get_ofFn {α : Type} (f : ChainNo → α) (c : ChainNo) : (Quad.ofFn f).get c = f c := by
  match c with
  | 0 => rfl
  | 1 => rfl
  | 2 => rfl
  | 3 => rfl

/-- Two tables of chains that agree at every chain are one. -/
theorem Quad.ext_get {α : Type} {q r : Quad α} (h : ∀ c, q.get c = r.get c) : q = r := by
  obtain ⟨a, b, c, d⟩ := q
  obtain ⟨a', b', c', d'⟩ := r
  have h0 := h 0
  have h1 := h 1
  have h2 := h 2
  have h3 := h 3
  simp_all [Quad.get]

/-- A table made from the values of a table is that table. -/
@[simp] theorem Quad.ofFn_get {α : Type} (q : Quad α) : (Quad.ofFn fun c => q.get c) = q :=
  Quad.ext_get fun c => Quad.get_ofFn _ c

@[simp] theorem Trio.get_set_same {α : Type} (t : Trio α) (k : Fin 3) (a : α) : (t.set k a).get k = a := by
  match k with
  | 0 => rfl
  | 1 => rfl
  | 2 => rfl

theorem Trio.get_set {α : Type} (t : Trio α) (k j : Fin 3) (a : α) :
    (t.set k a).get j = if j = k then a else t.get j := by
  match k, j with
  | 0, 0 => rfl
  | 0, 1 => rfl
  | 0, 2 => rfl
  | 1, 0 => rfl
  | 1, 1 => rfl
  | 1, 2 => rfl
  | 2, 0 => rfl
  | 2, 1 => rfl
  | 2, 2 => rfl

@[simp] theorem Trio.get_fill {α : Type} (a : α) (k : Fin 3) : (Trio.fill a).get k = a := by
  match k with
  | 0 => rfl
  | 1 => rfl
  | 2 => rfl

@[simp] theorem Trio.get_map {α β : Type} (f : α → β) (t : Trio α) (k : Fin 3) : (t.map f).get k = f (t.get k) := by
  match k with
  | 0 => rfl
  | 1 => rfl
  | 2 => rfl

end Sys2Proof
end

