-- ==== Sys2Proof/Laws/Bus.lean ====
section
/-! SUPPORT. What the level bus can do: its arbiter serves a chain that waits, and the value a chain's stage will hold
is the level last handed over. -/

namespace Sys2Proof.Machine

/-- The level a chain's stage will hold once the bus is quiet. -/
def settledLevel (b : LevelBus) (c : ChainNo) : Nat := (b.pending.get c).getD (busValue b c)

/-- The arbiter serves only a chain with a level waiting. -/
theorem busWinner_pending {b : LevelBus} {c : ChainNo} (h : busWinner b = some c) :
    ∃ v, b.pending.get c = some v ∧ v ≠ b.lastSent.get c := by
  unfold busWinner at h
  split at h
  · next d hd =>
    cases h
    have := List.find?_some hd
    unfold reductionPending at this
    cases hp : b.pending.get c with
    | none => simp [hp] at this
    | some v =>
      refine ⟨v, rfl, ?_⟩
      simp [hp] at this
      omega
  · have := List.find?_some h
    unfold raisePending at this
    cases hp : b.pending.get c with
    | none => simp [hp] at this
    | some v =>
      refine ⟨v, rfl, ?_⟩
      simp [hp] at this
      omega

/-- Every chain stands in the cyclic order. -/
theorem mem_cyclicAfter (c d : ChainNo) : d ∈ cyclicAfter c := by
  revert c d
  decide

/-- The arbiter serves some chain if any waits with a level other than its last sent. -/
theorem busWinner_some {b : LevelBus} {c : ChainNo} {v : Nat} (h : b.pending.get c = some v)
    (hne : v ≠ b.lastSent.get c) : busWinner b ≠ none := by
  intro hn
  unfold busWinner at hn
  split at hn
  · cases hn
  · next hr =>
    rw [List.find?_eq_none] at hr hn
    have h1 := hr c (mem_cyclicAfter _ _)
    have h2 := hn c (mem_cyclicAfter _ _)
    simp [reductionPending, h] at h1
    simp [raisePending, h] at h2
    omega

/-- Starting a transfer moves no settled level: what waited is now in flight. -/
theorem arbitrate_settled (now : Nat) (b : LevelBus) (c : ChainNo) :
    settledLevel (arbitrate now b) c = settledLevel b c := by
  unfold arbitrate
  split
  · rfl
  · next hi =>
    split
    · rfl
    · next d hd =>
      obtain ⟨v, hv, _⟩ := busWinner_pending hd
      simp only [beginTransfer, hv, settledLevel, busValue, hi]
      by_cases h : c = d
      · subst h
        simp [hv]
      · simp [Quad.get_set_other _ _ h, Ne.symm h]

/-- A level handed over is the level the chain's stage will hold, and no other chain's changes. -/
theorem handOffBus_settled (now : Nat) (c : ChainNo) (a : Nat) (b : LevelBus) (d : ChainNo) :
    settledLevel (handOffBus now c a b) d = if d = c then a else settledLevel b d := by
  unfold handOffBus
  rw [arbitrate_settled]
  unfold settledLevel
  by_cases h : d = c
  · subst h
    simp only [Quad.get_set_same, if_true, pendingFor]
    split
    · next he => simp [busValue, he]
    · rfl
  · simp only [Quad.get_set_other _ _ h, if_neg h]
    rfl

end Sys2Proof.Machine
end

