-- ==== Sys2Proof/Laws/State.lean ====
section
/-! SUPPORT. One lemma per field of State per record update the operations make, each true by unfolding. -/

namespace Sys2Proof.Machine

/-! ### elapse -/

@[simp] theorem elapse_pending (dt : Nat) (s : State) : (elapse dt s).pending = s.pending := rfl
@[simp] theorem elapse_time (dt : Nat) (s : State) : (elapse dt s).time = s.time + dt := rfl
@[simp] theorem elapse_phase (dt : Nat) (s : State) : (elapse dt s).phase = s.phase := rfl
@[simp] theorem elapse_pins (dt : Nat) (s : State) : (elapse dt s).pins = s.pins := rfl
@[simp] theorem elapse_lines (dt : Nat) (s : State) : (elapse dt s).lines = s.lines := rfl
@[simp] theorem elapse_intake (dt : Nat) (s : State) : (elapse dt s).intake = s.intake := rfl
@[simp] theorem elapse_chains (dt : Nat) (s : State) : (elapse dt s).chains = s.chains := rfl
@[simp] theorem elapse_site (dt : Nat) (s : State) : (elapse dt s).site = s.site := rfl
@[simp] theorem elapse_fastMute (dt : Nat) (s : State) : (elapse dt s).fastMute = s.fastMute := rfl
@[simp] theorem elapse_tracker (dt : Nat) (s : State) : (elapse dt s).tracker = s.tracker := rfl
@[simp] theorem elapse_levelBus (dt : Nat) (s : State) : (elapse dt s).levelBus = s.levelBus := rfl
@[simp] theorem elapse_alarms (dt : Nat) (s : State) : (elapse dt s).alarms = s.alarms := rfl
@[simp] theorem elapse_capture (dt : Nat) (s : State) : (elapse dt s).capture = s.capture := rfl
@[simp] theorem elapse_store (dt : Nat) (s : State) : (elapse dt s).store = s.store := rfl
@[simp] theorem elapse_nv (dt : Nat) (s : State) : (elapse dt s).nv = s.nv := rfl
@[simp] theorem elapse_array (dt : Nat) (s : State) : (elapse dt s).array = s.array := rfl
@[simp] theorem elapse_link (dt : Nat) (s : State) : (elapse dt s).link = s.link := rfl

/-! ### setChain -/

@[simp] theorem setChain_pending (c : ChainNo) (x : Chain) (s : State) : (setChain c x s).pending = s.pending := rfl
@[simp] theorem setChain_time (c : ChainNo) (x : Chain) (s : State) : (setChain c x s).time = s.time := rfl
@[simp] theorem setChain_phase (c : ChainNo) (x : Chain) (s : State) : (setChain c x s).phase = s.phase := rfl
@[simp] theorem setChain_pins (c : ChainNo) (x : Chain) (s : State) : (setChain c x s).pins = s.pins := rfl
@[simp] theorem setChain_lines (c : ChainNo) (x : Chain) (s : State) : (setChain c x s).lines = s.lines := rfl
@[simp] theorem setChain_intake (c : ChainNo) (x : Chain) (s : State) : (setChain c x s).intake = s.intake := rfl
@[simp] theorem setChain_chains (c : ChainNo) (x : Chain) (s : State) : (setChain c x s).chains = s.chains.set c x := rfl
@[simp] theorem setChain_site (c : ChainNo) (x : Chain) (s : State) : (setChain c x s).site = s.site := rfl
@[simp] theorem setChain_fastMute (c : ChainNo) (x : Chain) (s : State) : (setChain c x s).fastMute = s.fastMute := rfl
@[simp] theorem setChain_tracker (c : ChainNo) (x : Chain) (s : State) : (setChain c x s).tracker = s.tracker := rfl
@[simp] theorem setChain_levelBus (c : ChainNo) (x : Chain) (s : State) : (setChain c x s).levelBus = s.levelBus := rfl
@[simp] theorem setChain_alarms (c : ChainNo) (x : Chain) (s : State) : (setChain c x s).alarms = s.alarms := rfl
@[simp] theorem setChain_capture (c : ChainNo) (x : Chain) (s : State) : (setChain c x s).capture = s.capture := rfl
@[simp] theorem setChain_store (c : ChainNo) (x : Chain) (s : State) : (setChain c x s).store = s.store := rfl
@[simp] theorem setChain_nv (c : ChainNo) (x : Chain) (s : State) : (setChain c x s).nv = s.nv := rfl
@[simp] theorem setChain_array (c : ChainNo) (x : Chain) (s : State) : (setChain c x s).array = s.array := rfl
@[simp] theorem setChain_link (c : ChainNo) (x : Chain) (s : State) : (setChain c x s).link = s.link := rfl

/-! ### setRecord -/

@[simp] theorem setRecord_pending (c : ChainNo) (r : ChainRecord) (s : State) : (setRecord c r s).pending = s.pending := rfl
@[simp] theorem setRecord_time (c : ChainNo) (r : ChainRecord) (s : State) : (setRecord c r s).time = s.time := rfl
@[simp] theorem setRecord_phase (c : ChainNo) (r : ChainRecord) (s : State) : (setRecord c r s).phase = s.phase := rfl
@[simp] theorem setRecord_pins (c : ChainNo) (r : ChainRecord) (s : State) : (setRecord c r s).pins = s.pins := rfl
@[simp] theorem setRecord_lines (c : ChainNo) (r : ChainRecord) (s : State) : (setRecord c r s).lines = s.lines := rfl
@[simp] theorem setRecord_intake (c : ChainNo) (r : ChainRecord) (s : State) : (setRecord c r s).intake = s.intake := rfl
@[simp] theorem setRecord_chains (c : ChainNo) (r : ChainRecord) (s : State) : (setRecord c r s).chains = s.chains.set c { s.chains.get c with record := r } := rfl
@[simp] theorem setRecord_site (c : ChainNo) (r : ChainRecord) (s : State) : (setRecord c r s).site = s.site := rfl
@[simp] theorem setRecord_fastMute (c : ChainNo) (r : ChainRecord) (s : State) : (setRecord c r s).fastMute = s.fastMute := rfl
@[simp] theorem setRecord_tracker (c : ChainNo) (r : ChainRecord) (s : State) : (setRecord c r s).tracker = s.tracker := rfl
@[simp] theorem setRecord_levelBus (c : ChainNo) (r : ChainRecord) (s : State) : (setRecord c r s).levelBus = s.levelBus := rfl
@[simp] theorem setRecord_alarms (c : ChainNo) (r : ChainRecord) (s : State) : (setRecord c r s).alarms = s.alarms := rfl
@[simp] theorem setRecord_capture (c : ChainNo) (r : ChainRecord) (s : State) : (setRecord c r s).capture = s.capture := rfl
@[simp] theorem setRecord_store (c : ChainNo) (r : ChainRecord) (s : State) : (setRecord c r s).store = s.store := rfl
@[simp] theorem setRecord_nv (c : ChainNo) (r : ChainRecord) (s : State) : (setRecord c r s).nv = s.nv := rfl
@[simp] theorem setRecord_array (c : ChainNo) (r : ChainRecord) (s : State) : (setRecord c r s).array = s.array := rfl
@[simp] theorem setRecord_link (c : ChainNo) (r : ChainRecord) (s : State) : (setRecord c r s).link = s.link := rfl

/-! ### setInbox -/

@[simp] theorem setInbox_pending (c : ChainNo) (b : ChainInbox) (s : State) : (setInbox c b s).pending = s.pending := rfl
@[simp] theorem setInbox_time (c : ChainNo) (b : ChainInbox) (s : State) : (setInbox c b s).time = s.time := rfl
@[simp] theorem setInbox_phase (c : ChainNo) (b : ChainInbox) (s : State) : (setInbox c b s).phase = s.phase := rfl
@[simp] theorem setInbox_pins (c : ChainNo) (b : ChainInbox) (s : State) : (setInbox c b s).pins = s.pins := rfl
@[simp] theorem setInbox_lines (c : ChainNo) (b : ChainInbox) (s : State) : (setInbox c b s).lines = s.lines := rfl
@[simp] theorem setInbox_intake (c : ChainNo) (b : ChainInbox) (s : State) : (setInbox c b s).intake = s.intake := rfl
@[simp] theorem setInbox_chains (c : ChainNo) (b : ChainInbox) (s : State) : (setInbox c b s).chains = s.chains.set c { s.chains.get c with inbox := b } := rfl
@[simp] theorem setInbox_site (c : ChainNo) (b : ChainInbox) (s : State) : (setInbox c b s).site = s.site := rfl
@[simp] theorem setInbox_fastMute (c : ChainNo) (b : ChainInbox) (s : State) : (setInbox c b s).fastMute = s.fastMute := rfl
@[simp] theorem setInbox_tracker (c : ChainNo) (b : ChainInbox) (s : State) : (setInbox c b s).tracker = s.tracker := rfl
@[simp] theorem setInbox_levelBus (c : ChainNo) (b : ChainInbox) (s : State) : (setInbox c b s).levelBus = s.levelBus := rfl
@[simp] theorem setInbox_alarms (c : ChainNo) (b : ChainInbox) (s : State) : (setInbox c b s).alarms = s.alarms := rfl
@[simp] theorem setInbox_capture (c : ChainNo) (b : ChainInbox) (s : State) : (setInbox c b s).capture = s.capture := rfl
@[simp] theorem setInbox_store (c : ChainNo) (b : ChainInbox) (s : State) : (setInbox c b s).store = s.store := rfl
@[simp] theorem setInbox_nv (c : ChainNo) (b : ChainInbox) (s : State) : (setInbox c b s).nv = s.nv := rfl
@[simp] theorem setInbox_array (c : ChainNo) (b : ChainInbox) (s : State) : (setInbox c b s).array = s.array := rfl
@[simp] theorem setInbox_link (c : ChainNo) (b : ChainInbox) (s : State) : (setInbox c b s).link = s.link := rfl

/-! ### deliverAll -/

@[simp] theorem deliverAll_pending (f : ChainInbox → ChainInbox) (s : State) : (deliverAll f s).pending = s.pending := rfl
@[simp] theorem deliverAll_time (f : ChainInbox → ChainInbox) (s : State) : (deliverAll f s).time = s.time := rfl
@[simp] theorem deliverAll_phase (f : ChainInbox → ChainInbox) (s : State) : (deliverAll f s).phase = s.phase := rfl
@[simp] theorem deliverAll_pins (f : ChainInbox → ChainInbox) (s : State) : (deliverAll f s).pins = s.pins := rfl
@[simp] theorem deliverAll_lines (f : ChainInbox → ChainInbox) (s : State) : (deliverAll f s).lines = s.lines := rfl
@[simp] theorem deliverAll_intake (f : ChainInbox → ChainInbox) (s : State) : (deliverAll f s).intake = s.intake := rfl
@[simp] theorem deliverAll_chains (f : ChainInbox → ChainInbox) (s : State) : (deliverAll f s).chains = s.chains.map fun x => { x with inbox := f x.inbox } := rfl
@[simp] theorem deliverAll_site (f : ChainInbox → ChainInbox) (s : State) : (deliverAll f s).site = s.site := rfl
@[simp] theorem deliverAll_fastMute (f : ChainInbox → ChainInbox) (s : State) : (deliverAll f s).fastMute = s.fastMute := rfl
@[simp] theorem deliverAll_tracker (f : ChainInbox → ChainInbox) (s : State) : (deliverAll f s).tracker = s.tracker := rfl
@[simp] theorem deliverAll_levelBus (f : ChainInbox → ChainInbox) (s : State) : (deliverAll f s).levelBus = s.levelBus := rfl
@[simp] theorem deliverAll_alarms (f : ChainInbox → ChainInbox) (s : State) : (deliverAll f s).alarms = s.alarms := rfl
@[simp] theorem deliverAll_capture (f : ChainInbox → ChainInbox) (s : State) : (deliverAll f s).capture = s.capture := rfl
@[simp] theorem deliverAll_store (f : ChainInbox → ChainInbox) (s : State) : (deliverAll f s).store = s.store := rfl
@[simp] theorem deliverAll_nv (f : ChainInbox → ChainInbox) (s : State) : (deliverAll f s).nv = s.nv := rfl
@[simp] theorem deliverAll_array (f : ChainInbox → ChainInbox) (s : State) : (deliverAll f s).array = s.array := rfl
@[simp] theorem deliverAll_link (f : ChainInbox → ChainInbox) (s : State) : (deliverAll f s).link = s.link := rfl

/-! ### driveLines -/

@[simp] theorem driveLines_pending (s : State) : (driveLines s).pending = s.pending := rfl
@[simp] theorem driveLines_time (s : State) : (driveLines s).time = s.time := rfl
@[simp] theorem driveLines_phase (s : State) : (driveLines s).phase = s.phase := rfl
@[simp] theorem driveLines_pins (s : State) : (driveLines s).pins = s.pins := rfl
@[simp] theorem driveLines_lines (s : State) : (driveLines s).lines = linesOf s := rfl
@[simp] theorem driveLines_intake (s : State) : (driveLines s).intake = s.intake := rfl
@[simp] theorem driveLines_chains (s : State) : (driveLines s).chains = s.chains := rfl
@[simp] theorem driveLines_site (s : State) : (driveLines s).site = s.site := rfl
@[simp] theorem driveLines_fastMute (s : State) : (driveLines s).fastMute = s.fastMute := rfl
@[simp] theorem driveLines_tracker (s : State) : (driveLines s).tracker = s.tracker := rfl
@[simp] theorem driveLines_levelBus (s : State) : (driveLines s).levelBus = s.levelBus := rfl
@[simp] theorem driveLines_alarms (s : State) : (driveLines s).alarms = s.alarms := rfl
@[simp] theorem driveLines_capture (s : State) : (driveLines s).capture = s.capture := rfl
@[simp] theorem driveLines_store (s : State) : (driveLines s).store = s.store := rfl
@[simp] theorem driveLines_nv (s : State) : (driveLines s).nv = s.nv := rfl
@[simp] theorem driveLines_array (s : State) : (driveLines s).array = s.array := rfl
@[simp] theorem driveLines_link (s : State) : (driveLines s).link = s.link := rfl

/-! ### handOff -/

@[simp] theorem handOff_pending (c : ChainNo) (a : Nat) (s : State) : (handOff c a s).pending = s.pending := rfl
@[simp] theorem handOff_time (c : ChainNo) (a : Nat) (s : State) : (handOff c a s).time = s.time := rfl
@[simp] theorem handOff_phase (c : ChainNo) (a : Nat) (s : State) : (handOff c a s).phase = s.phase := rfl
@[simp] theorem handOff_pins (c : ChainNo) (a : Nat) (s : State) : (handOff c a s).pins = s.pins := rfl
@[simp] theorem handOff_lines (c : ChainNo) (a : Nat) (s : State) : (handOff c a s).lines = s.lines := rfl
@[simp] theorem handOff_intake (c : ChainNo) (a : Nat) (s : State) : (handOff c a s).intake = s.intake := rfl
@[simp] theorem handOff_chains (c : ChainNo) (a : Nat) (s : State) : (handOff c a s).chains = s.chains := rfl
@[simp] theorem handOff_site (c : ChainNo) (a : Nat) (s : State) : (handOff c a s).site = s.site := rfl
@[simp] theorem handOff_fastMute (c : ChainNo) (a : Nat) (s : State) : (handOff c a s).fastMute = s.fastMute := rfl
@[simp] theorem handOff_tracker (c : ChainNo) (a : Nat) (s : State) : (handOff c a s).tracker = s.tracker := rfl
@[simp] theorem handOff_levelBus (c : ChainNo) (a : Nat) (s : State) : (handOff c a s).levelBus = handOffBus s.time c a s.levelBus := rfl
@[simp] theorem handOff_alarms (c : ChainNo) (a : Nat) (s : State) : (handOff c a s).alarms = s.alarms := rfl
@[simp] theorem handOff_capture (c : ChainNo) (a : Nat) (s : State) : (handOff c a s).capture = s.capture := rfl
@[simp] theorem handOff_store (c : ChainNo) (a : Nat) (s : State) : (handOff c a s).store = s.store := rfl
@[simp] theorem handOff_nv (c : ChainNo) (a : Nat) (s : State) : (handOff c a s).nv = s.nv := rfl
@[simp] theorem handOff_array (c : ChainNo) (a : Nat) (s : State) : (handOff c a s).array = s.array := rfl
@[simp] theorem handOff_link (c : ChainNo) (a : Nat) (s : State) : (handOff c a s).link = s.link := rfl

/-! ### handRecord -/

@[simp] theorem handRecord_pending (k : Fin 5) (x : CaptureRecord) (s : State) : (handRecord k x s).pending = s.pending := rfl
@[simp] theorem handRecord_time (k : Fin 5) (x : CaptureRecord) (s : State) : (handRecord k x s).time = s.time := rfl
@[simp] theorem handRecord_phase (k : Fin 5) (x : CaptureRecord) (s : State) : (handRecord k x s).phase = s.phase := rfl
@[simp] theorem handRecord_pins (k : Fin 5) (x : CaptureRecord) (s : State) : (handRecord k x s).pins = s.pins := rfl
@[simp] theorem handRecord_lines (k : Fin 5) (x : CaptureRecord) (s : State) : (handRecord k x s).lines = s.lines := rfl
@[simp] theorem handRecord_intake (k : Fin 5) (x : CaptureRecord) (s : State) : (handRecord k x s).intake = s.intake := rfl
@[simp] theorem handRecord_chains (k : Fin 5) (x : CaptureRecord) (s : State) : (handRecord k x s).chains = s.chains := rfl
@[simp] theorem handRecord_site (k : Fin 5) (x : CaptureRecord) (s : State) : (handRecord k x s).site = s.site := rfl
@[simp] theorem handRecord_fastMute (k : Fin 5) (x : CaptureRecord) (s : State) : (handRecord k x s).fastMute = s.fastMute := rfl
@[simp] theorem handRecord_tracker (k : Fin 5) (x : CaptureRecord) (s : State) : (handRecord k x s).tracker = s.tracker := rfl
@[simp] theorem handRecord_levelBus (k : Fin 5) (x : CaptureRecord) (s : State) : (handRecord k x s).levelBus = s.levelBus := rfl
@[simp] theorem handRecord_alarms (k : Fin 5) (x : CaptureRecord) (s : State) : (handRecord k x s).alarms = s.alarms := rfl
@[simp] theorem handRecord_capture (k : Fin 5) (x : CaptureRecord) (s : State) : (handRecord k x s).capture = { s.capture with handed := placeRecord ⟨k, s.time, x⟩ s.capture.handed } := rfl
@[simp] theorem handRecord_store (k : Fin 5) (x : CaptureRecord) (s : State) : (handRecord k x s).store = s.store := rfl
@[simp] theorem handRecord_nv (k : Fin 5) (x : CaptureRecord) (s : State) : (handRecord k x s).nv = s.nv := rfl
@[simp] theorem handRecord_array (k : Fin 5) (x : CaptureRecord) (s : State) : (handRecord k x s).array = s.array := rfl
@[simp] theorem handRecord_link (k : Fin 5) (x : CaptureRecord) (s : State) : (handRecord k x s).link = s.link := rfl

/-! ### setSite -/

@[simp] theorem setSite_pending (r : SiteRecord) (s : State) : (setSite r s).pending = s.pending := rfl
@[simp] theorem setSite_time (r : SiteRecord) (s : State) : (setSite r s).time = s.time := rfl
@[simp] theorem setSite_phase (r : SiteRecord) (s : State) : (setSite r s).phase = s.phase := rfl
@[simp] theorem setSite_pins (r : SiteRecord) (s : State) : (setSite r s).pins = s.pins := rfl
@[simp] theorem setSite_lines (r : SiteRecord) (s : State) : (setSite r s).lines = s.lines := rfl
@[simp] theorem setSite_intake (r : SiteRecord) (s : State) : (setSite r s).intake = s.intake := rfl
@[simp] theorem setSite_chains (r : SiteRecord) (s : State) : (setSite r s).chains = s.chains := rfl
@[simp] theorem setSite_site (r : SiteRecord) (s : State) : (setSite r s).site = { s.site with record := r } := rfl
@[simp] theorem setSite_fastMute (r : SiteRecord) (s : State) : (setSite r s).fastMute = s.fastMute := rfl
@[simp] theorem setSite_tracker (r : SiteRecord) (s : State) : (setSite r s).tracker = s.tracker := rfl
@[simp] theorem setSite_levelBus (r : SiteRecord) (s : State) : (setSite r s).levelBus = s.levelBus := rfl
@[simp] theorem setSite_alarms (r : SiteRecord) (s : State) : (setSite r s).alarms = s.alarms := rfl
@[simp] theorem setSite_capture (r : SiteRecord) (s : State) : (setSite r s).capture = s.capture := rfl
@[simp] theorem setSite_store (r : SiteRecord) (s : State) : (setSite r s).store = s.store := rfl
@[simp] theorem setSite_nv (r : SiteRecord) (s : State) : (setSite r s).nv = s.nv := rfl
@[simp] theorem setSite_array (r : SiteRecord) (s : State) : (setSite r s).array = s.array := rfl
@[simp] theorem setSite_link (r : SiteRecord) (s : State) : (setSite r s).link = s.link := rfl

/-! ### setTracker -/

@[simp] theorem setTracker_pending (t : Tracker) (s : State) : (setTracker t s).pending = s.pending := rfl
@[simp] theorem setTracker_time (t : Tracker) (s : State) : (setTracker t s).time = s.time := rfl
@[simp] theorem setTracker_phase (t : Tracker) (s : State) : (setTracker t s).phase = s.phase := rfl
@[simp] theorem setTracker_pins (t : Tracker) (s : State) : (setTracker t s).pins = s.pins := rfl
@[simp] theorem setTracker_lines (t : Tracker) (s : State) : (setTracker t s).lines = s.lines := rfl
@[simp] theorem setTracker_intake (t : Tracker) (s : State) : (setTracker t s).intake = s.intake := rfl
@[simp] theorem setTracker_chains (t : Tracker) (s : State) : (setTracker t s).chains = s.chains := rfl
@[simp] theorem setTracker_site (t : Tracker) (s : State) : (setTracker t s).site = s.site := rfl
@[simp] theorem setTracker_fastMute (t : Tracker) (s : State) : (setTracker t s).fastMute = s.fastMute := rfl
@[simp] theorem setTracker_tracker (t : Tracker) (s : State) : (setTracker t s).tracker = t := rfl
@[simp] theorem setTracker_levelBus (t : Tracker) (s : State) : (setTracker t s).levelBus = s.levelBus := rfl
@[simp] theorem setTracker_alarms (t : Tracker) (s : State) : (setTracker t s).alarms = s.alarms := rfl
@[simp] theorem setTracker_capture (t : Tracker) (s : State) : (setTracker t s).capture = s.capture := rfl
@[simp] theorem setTracker_store (t : Tracker) (s : State) : (setTracker t s).store = s.store := rfl
@[simp] theorem setTracker_nv (t : Tracker) (s : State) : (setTracker t s).nv = s.nv := rfl
@[simp] theorem setTracker_array (t : Tracker) (s : State) : (setTracker t s).array = s.array := rfl
@[simp] theorem setTracker_link (t : Tracker) (s : State) : (setTracker t s).link = s.link := rfl

/-! ### setReceiver -/

@[simp] theorem setReceiver_pending (x : SampleReceiver) (s : State) : (setReceiver x s).pending = s.pending := rfl
@[simp] theorem setReceiver_time (x : SampleReceiver) (s : State) : (setReceiver x s).time = s.time := rfl
@[simp] theorem setReceiver_phase (x : SampleReceiver) (s : State) : (setReceiver x s).phase = s.phase := rfl
@[simp] theorem setReceiver_pins (x : SampleReceiver) (s : State) : (setReceiver x s).pins = s.pins := rfl
@[simp] theorem setReceiver_lines (x : SampleReceiver) (s : State) : (setReceiver x s).lines = s.lines := rfl
@[simp] theorem setReceiver_intake (x : SampleReceiver) (s : State) : (setReceiver x s).intake = { s.intake with receiver := x } := rfl
@[simp] theorem setReceiver_chains (x : SampleReceiver) (s : State) : (setReceiver x s).chains = s.chains := rfl
@[simp] theorem setReceiver_site (x : SampleReceiver) (s : State) : (setReceiver x s).site = s.site := rfl
@[simp] theorem setReceiver_fastMute (x : SampleReceiver) (s : State) : (setReceiver x s).fastMute = s.fastMute := rfl
@[simp] theorem setReceiver_tracker (x : SampleReceiver) (s : State) : (setReceiver x s).tracker = s.tracker := rfl
@[simp] theorem setReceiver_levelBus (x : SampleReceiver) (s : State) : (setReceiver x s).levelBus = s.levelBus := rfl
@[simp] theorem setReceiver_alarms (x : SampleReceiver) (s : State) : (setReceiver x s).alarms = s.alarms := rfl
@[simp] theorem setReceiver_capture (x : SampleReceiver) (s : State) : (setReceiver x s).capture = s.capture := rfl
@[simp] theorem setReceiver_store (x : SampleReceiver) (s : State) : (setReceiver x s).store = s.store := rfl
@[simp] theorem setReceiver_nv (x : SampleReceiver) (s : State) : (setReceiver x s).nv = s.nv := rfl
@[simp] theorem setReceiver_array (x : SampleReceiver) (s : State) : (setReceiver x s).array = s.array := rfl
@[simp] theorem setReceiver_link (x : SampleReceiver) (s : State) : (setReceiver x s).link = s.link := rfl

/-! ### setLinkReceiver -/

@[simp] theorem setLinkReceiver_pending (x : LinkReceiver) (s : State) : (setLinkReceiver x s).pending = s.pending := rfl
@[simp] theorem setLinkReceiver_time (x : LinkReceiver) (s : State) : (setLinkReceiver x s).time = s.time := rfl
@[simp] theorem setLinkReceiver_phase (x : LinkReceiver) (s : State) : (setLinkReceiver x s).phase = s.phase := rfl
@[simp] theorem setLinkReceiver_pins (x : LinkReceiver) (s : State) : (setLinkReceiver x s).pins = s.pins := rfl
@[simp] theorem setLinkReceiver_lines (x : LinkReceiver) (s : State) : (setLinkReceiver x s).lines = s.lines := rfl
@[simp] theorem setLinkReceiver_intake (x : LinkReceiver) (s : State) : (setLinkReceiver x s).intake = s.intake := rfl
@[simp] theorem setLinkReceiver_chains (x : LinkReceiver) (s : State) : (setLinkReceiver x s).chains = s.chains := rfl
@[simp] theorem setLinkReceiver_site (x : LinkReceiver) (s : State) : (setLinkReceiver x s).site = s.site := rfl
@[simp] theorem setLinkReceiver_fastMute (x : LinkReceiver) (s : State) : (setLinkReceiver x s).fastMute = s.fastMute := rfl
@[simp] theorem setLinkReceiver_tracker (x : LinkReceiver) (s : State) : (setLinkReceiver x s).tracker = s.tracker := rfl
@[simp] theorem setLinkReceiver_levelBus (x : LinkReceiver) (s : State) : (setLinkReceiver x s).levelBus = s.levelBus := rfl
@[simp] theorem setLinkReceiver_alarms (x : LinkReceiver) (s : State) : (setLinkReceiver x s).alarms = s.alarms := rfl
@[simp] theorem setLinkReceiver_capture (x : LinkReceiver) (s : State) : (setLinkReceiver x s).capture = s.capture := rfl
@[simp] theorem setLinkReceiver_store (x : LinkReceiver) (s : State) : (setLinkReceiver x s).store = s.store := rfl
@[simp] theorem setLinkReceiver_nv (x : LinkReceiver) (s : State) : (setLinkReceiver x s).nv = s.nv := rfl
@[simp] theorem setLinkReceiver_array (x : LinkReceiver) (s : State) : (setLinkReceiver x s).array = s.array := rfl
@[simp] theorem setLinkReceiver_link (x : LinkReceiver) (s : State) : (setLinkReceiver x s).link = { s.link with receiver := x } := rfl

/-! ### takeInHand -/

@[simp] theorem takeInHand_pending (k g : Byte) (s : State) : (takeInHand k g s).pending = s.pending := rfl
@[simp] theorem takeInHand_time (k g : Byte) (s : State) : (takeInHand k g s).time = s.time := rfl
@[simp] theorem takeInHand_phase (k g : Byte) (s : State) : (takeInHand k g s).phase = s.phase := rfl
@[simp] theorem takeInHand_pins (k g : Byte) (s : State) : (takeInHand k g s).pins = s.pins := rfl
@[simp] theorem takeInHand_lines (k g : Byte) (s : State) : (takeInHand k g s).lines = s.lines := rfl
@[simp] theorem takeInHand_intake (k g : Byte) (s : State) : (takeInHand k g s).intake = s.intake := rfl
@[simp] theorem takeInHand_chains (k g : Byte) (s : State) : (takeInHand k g s).chains = s.chains := rfl
@[simp] theorem takeInHand_site (k g : Byte) (s : State) : (takeInHand k g s).site = s.site := rfl
@[simp] theorem takeInHand_fastMute (k g : Byte) (s : State) : (takeInHand k g s).fastMute = s.fastMute := rfl
@[simp] theorem takeInHand_tracker (k g : Byte) (s : State) : (takeInHand k g s).tracker = s.tracker := rfl
@[simp] theorem takeInHand_levelBus (k g : Byte) (s : State) : (takeInHand k g s).levelBus = s.levelBus := rfl
@[simp] theorem takeInHand_alarms (k g : Byte) (s : State) : (takeInHand k g s).alarms = s.alarms := rfl
@[simp] theorem takeInHand_capture (k g : Byte) (s : State) : (takeInHand k g s).capture = s.capture := rfl
@[simp] theorem takeInHand_store (k g : Byte) (s : State) : (takeInHand k g s).store = s.store := rfl
@[simp] theorem takeInHand_nv (k g : Byte) (s : State) : (takeInHand k g s).nv = s.nv := rfl
@[simp] theorem takeInHand_array (k g : Byte) (s : State) : (takeInHand k g s).array = s.array := rfl
@[simp] theorem takeInHand_link (k g : Byte) (s : State) : (takeInHand k g s).link = { s.link with inHand := some ⟨k, g⟩ } := rfl

/-! ### setLoad -/

@[simp] theorem setLoad_pending (l : Load) (s : State) : (setLoad l s).pending = s.pending := rfl
@[simp] theorem setLoad_time (l : Load) (s : State) : (setLoad l s).time = s.time := rfl
@[simp] theorem setLoad_phase (l : Load) (s : State) : (setLoad l s).phase = s.phase := rfl
@[simp] theorem setLoad_pins (l : Load) (s : State) : (setLoad l s).pins = s.pins := rfl
@[simp] theorem setLoad_lines (l : Load) (s : State) : (setLoad l s).lines = s.lines := rfl
@[simp] theorem setLoad_intake (l : Load) (s : State) : (setLoad l s).intake = s.intake := rfl
@[simp] theorem setLoad_chains (l : Load) (s : State) : (setLoad l s).chains = s.chains := rfl
@[simp] theorem setLoad_site (l : Load) (s : State) : (setLoad l s).site = s.site := rfl
@[simp] theorem setLoad_fastMute (l : Load) (s : State) : (setLoad l s).fastMute = s.fastMute := rfl
@[simp] theorem setLoad_tracker (l : Load) (s : State) : (setLoad l s).tracker = s.tracker := rfl
@[simp] theorem setLoad_levelBus (l : Load) (s : State) : (setLoad l s).levelBus = s.levelBus := rfl
@[simp] theorem setLoad_alarms (l : Load) (s : State) : (setLoad l s).alarms = s.alarms := rfl
@[simp] theorem setLoad_capture (l : Load) (s : State) : (setLoad l s).capture = s.capture := rfl
@[simp] theorem setLoad_store (l : Load) (s : State) : (setLoad l s).store = { s.store with load := l } := rfl
@[simp] theorem setLoad_nv (l : Load) (s : State) : (setLoad l s).nv = s.nv := rfl
@[simp] theorem setLoad_array (l : Load) (s : State) : (setLoad l s).array = s.array := rfl
@[simp] theorem setLoad_link (l : Load) (s : State) : (setLoad l s).link = s.link := rfl

end Sys2Proof.Machine
end

