-- ==== Sys2Proof/Laws/Commit.lean ====
section
/-! SUPPORT. What the shared operations can do, each said once: raising a notice flag, changing the alarm reasons,
starting a nonvolatile write, committing a chain's record, and what finishes an event. -/

namespace Sys2Proof.Machine

/-! ## Notice flags and alarm reasons -/

/-- Raising a chain's flag changes nothing but the pending notices. -/
theorem raiseChain_frame (c : ChainNo) (s : State) :
    raiseChain c s = { s with link := { s.link with noticePending := (raiseChain c s).link.noticePending } } := by
  unfold raiseChain
  split <;> rfl

/-- Raising the site flag changes nothing but the pending notices. -/
theorem raiseSite_frame (s : State) :
    raiseSite s = { s with link := { s.link with noticePending := (raiseSite s).link.noticePending } } := by
  unfold raiseSite
  split <;> rfl

/-- Raising the capture flag changes nothing but the pending notices. -/
theorem raiseCapture_frame (s : State) :
    raiseCapture s = { s with link := { s.link with noticePending := (raiseCapture s).link.noticePending } } := by
  unfold raiseCapture
  split <;> rfl

/-- Replacing the reason set changes nothing but the set and the pending notices. -/
theorem setAlarms_frame (a : AlarmReasons) (s : State) :
    setAlarms a s = { s with alarms := a, link := { s.link with
      noticePending := (setAlarms a s).link.noticePending } } := by
  unfold setAlarms
  split
  · next h =>
    rw [h]
  · rw [raiseSite_frame]

/-- Raising no flag leaves the pending ones. -/
@[simp] theorem raisedFlags_none (now : Nat) (l : ControlLink) : raisedFlags none false false now l = l.noticePending := by
  simp [raisedFlags]

/-- The flags raised depend on the flags and the mask alone. -/
theorem raisedFlags_congr {x : Option ChainNo} {a b : Bool} {now : Nat} {k l : ControlLink}
    (hp : k.noticePending = l.noticePending) (hm : k.noticeMask = l.noticeMask) :
    raisedFlags x a b now k = raisedFlags x a b now l := by
  unfold raisedFlags
  rw [hp, hm]

/-- The mask is not touched by what is pending. -/
theorem raisedFlags_twice (x : Option ChainNo) (a b : Bool) (now : Nat) (l : ControlLink) :
    raisedFlags none b false now { l with noticePending := raisedFlags x a false now l }
      = raisedFlags x (a || b) false now l := by
  simp only [raisedFlags, Bool.and_false, reduceCtorEq, decide_false, Bool.false_eq_true, if_false, NoticeFlags.mk.injEq,
    and_true]
  refine ⟨Quad.ext_get fun c => by simp, ?_⟩
  cases l.noticeMask.site <;> cases a <;> cases b <;> rfl

/-- A chain's flag raised. -/
theorem raiseChain_link (c : ChainNo) (s : State) :
    (raiseChain c s).link = { s.link with noticePending := raisedFlags (some c) false false s.time s.link } := by
  unfold raiseChain
  split
  · next h =>
    have e : raisedFlags (some c) false false s.time s.link
        = { s.link.noticePending with
            chains := s.link.noticePending.chains.set c (raisedAt s.time (s.link.noticePending.chains.get c)) } := by
      simp only [raisedFlags, Bool.and_false, Bool.false_eq_true, if_false, NoticeFlags.mk.injEq, and_true]
      refine Quad.ext_get fun d => ?_
      rw [Quad.get_ofFn, Quad.get_set]
      by_cases hd : d = c
      · subst hd
        simp [h, raisedAt]
      · simp [hd, Ne.symm hd]
    rw [e]
  · next h =>
    have e : raisedFlags (some c) false false s.time s.link = s.link.noticePending := by
      simp only [raisedFlags, Bool.and_false, Bool.false_eq_true, if_false]
      have : (Quad.ofFn fun d =>
          if (s.link.noticeMask.chains.get d && decide (some c = some d)) = true then
            some ((s.link.noticePending.chains.get d).getD s.time)
          else s.link.noticePending.chains.get d) = s.link.noticePending.chains := by
        refine Quad.ext_get fun d => ?_
        rw [Quad.get_ofFn]
        by_cases hd : c = d
        · subst hd
          simp [h]
        · simp [hd]
      rw [this]
    rw [e]

/-- The site flag raised. -/
theorem raiseSite_link (s : State) :
    (raiseSite s).link = { s.link with noticePending := raisedFlags none true false s.time s.link } := by
  unfold raiseSite
  split
  · next h => simp [raisedFlags, h, raisedAt]
  · next h => simp [raisedFlags, h]

/-- The capture flag raised. -/
theorem raiseCapture_link (s : State) :
    (raiseCapture s).link = { s.link with noticePending := raisedFlags none false true s.time s.link } := by
  unfold raiseCapture
  split
  · next h => simp [raisedFlags, h, raisedAt]
  · next h => simp [raisedFlags, h]

/-- A message that a replaced mask leaves on the line was there, and is none it takes away. -/
theorem keptMessage_eq_some {set : NoticeSet} {now : Nat} {line : Option Transmission} {x : Transmission} :
    keptMessage set now line = some x ↔
      line = some x ∧ ∀ source raised, x.item = .notice source raised → raised = now → holdsSource set source = true := by
  unfold keptMessage
  rw [Option.filter_eq_some_iff]
  refine and_congr_right fun _ => ?_
  cases x.item with
  | reply => simp
  | busy => simp
  | notice source raised => by_cases h : raised = now <;> simp [h]

/-- A change of the reason set raises the site flag. -/
theorem setAlarms_link (a : AlarmReasons) (s : State) :
    (setAlarms a s).link
      = { s.link with noticePending := raisedFlags none (decide (a ≠ s.alarms)) false s.time s.link } := by
  unfold setAlarms
  split
  · next h => simp [h]
  · next h => simp [raiseSite_link, h]

/-! ## Nonvolatile writes -/

/-- Starting a write changes nothing but the NV Controller. -/
theorem startWrite_frame (s : State) : startWrite s = { s with nv := (startWrite s).nv } := by
  unfold startWrite
  split
  · rfl
  · split
    · rfl
    · split
      · rfl
      · split <;> rfl

/-- A request for a lockout record write changes nothing but the NV Controller. -/
theorem requestLockoutWrite_frame (s : State) : requestLockoutWrite s = { s with nv := (requestLockoutWrite s).nv } := by
  unfold requestLockoutWrite
  rw [startWrite_frame]

/-- Starting a write, in the terms claims use. -/
theorem startWrite_nv (s : State) : (startWrite s).nv = startedNv s.time (latchesOf s) s.store.directory s.nv := by
  unfold startWrite startedNv
  cases h : s.nv.inProgress with
  | some w => rfl
  | none =>
    dsimp only
    split
    · rfl
    · split
      · rfl
      · cases h' : s.nv.slotPending with
        | some w => rfl
        | none => rfl

/-- A request for a lockout record write, in the terms claims use. -/
theorem requestLockoutWrite_nv (s : State) :
    (requestLockoutWrite s).nv
      = startedNv s.time (latchesOf s) s.store.directory { s.nv with lockoutPending := true } := startWrite_nv _

/-! ## Committing a chain's record -/

/-- What committing chain `c`'s record does, field by field. -/
theorem commitChain_frame (c : ChainNo) (r : ChainRecord) (s : State) :
    commitChain c r s = { s with
      chains := s.chains.set c { s.chains.get c with record := r }
      levelBus := busAfter c r s.time s
      alarms := alarmsAfter c r s
      nv := (commitChain c r s).nv
      link := { s.link with noticePending := (commitChain c r s).link.noticePending } } := by
  unfold commitChain
  extract_lets old s1 s2 s3 s4
  have h2 : s2 = { s1 with levelBus := busAfter c r s.time s } := by
    simp only [s2, busAfter]
    split <;> rfl
  have h3 : s3 = { s2 with link := { s2.link with noticePending := s3.link.noticePending } } := by
    simp only [s3]
    split
    · rfl
    · rw [raiseChain_frame]
  have h4 : s4 = { s3 with nv := s4.nv } := by
    simp only [s4]
    split
    · rfl
    · rw [requestLockoutWrite_frame]
  have e4 : s4 = { s with
      chains := s.chains.set c { s.chains.get c with record := r }
      levelBus := busAfter c r s.time s
      nv := s4.nv
      link := { s.link with noticePending := s4.link.noticePending } } := by
    rw [h4, h3, h2]
    rfl
  clear_value s4
  clear h4 h3 h2 s3 s2 s1
  split
  · next h =>
    have ha : alarmsAfter c r s = s.alarms := by
      simp only [alarmsAfter, inLockout]
      exact if_pos h
    rw [ha, e4]
  · next h =>
    unfold setLockoutReason
    rw [setAlarms_frame]
    have ha : alarmsAfter c r s =
        { s4.alarms with lockoutChains := s4.alarms.lockoutChains.set c (decide (modeState r.mode = .lockout)) } := by
      simp only [alarmsAfter, inLockout]
      rw [e4]
      exact if_neg h
    rw [ha, e4]

/-- A changed latch requests a lockout record write of the latches as they then stand. -/
theorem commitChain_nv (c : ChainNo) (r : ChainRecord) (s : State) :
    (commitChain c r s).nv = if r.latch = (recordOf s c).latch then s.nv
      else startedNv s.time (latchesOf (commitChain c r s)) s.store.directory { s.nv with lockoutPending := true } := by
  have hl : latchesOf (commitChain c r s) = latchesOf (setRecord c r s) := by
    rw [commitChain_frame]
    rfl
  rw [hl]
  unfold commitChain
  extract_lets old s1 s2 s3 s4
  have h2 : s2 = { s1 with levelBus := s2.levelBus } := by
    simp only [s2]
    split <;> rfl
  have h3 : s3 = { s1 with levelBus := s3.levelBus, link := s3.link } := by
    simp only [s3]
    split
    · rw [h2]
    · rw [raiseChain_frame, h2]
  have h4 : s4.nv = if r.latch = (recordOf s c).latch then s.nv
      else startedNv s.time (latchesOf s1) s.store.directory { s.nv with lockoutPending := true } := by
    simp only [s4]
    rw [h3]
    split
    · rfl
    · exact requestLockoutWrite_nv _
  split
  · exact h4
  · unfold setLockoutReason
    rw [setAlarms_frame]
    exact h4

/-- A change of state or limiter raises the chain's flag, a change of the alarm reasons the site's. -/
theorem commitChain_link (c : ChainNo) (r : ChainRecord) (s : State) :
    (commitChain c r s).link = { s.link with
      noticePending := raisedFlags
        (if modeState r.mode = modeState (recordOf s c).mode ∧ r.limiter = (recordOf s c).limiter then none else some c)
        (decide (alarmsAfter c r s ≠ s.alarms)) false s.time s.link } := by
  dsimp only
  unfold commitChain
  extract_lets old s1 s2 s3 s4
  have h2 : s2.link = s.link := by
    simp only [s2]
    split <;> rfl
  have t2 : s2.time = s.time := by
    simp only [s2]
    split <;> rfl
  have t3 : s3.time = s.time := by
    simp only [s3]
    split
    · exact t2
    · rw [raiseChain_frame]
      exact t2
  have h3 : s3.link = { s.link with
      noticePending := raisedFlags
        (if modeState r.mode = modeState (recordOf s c).mode ∧ r.limiter = (recordOf s c).limiter then none else some c)
        false false s.time s.link } := by
    simp only [s3, old]
    split
    · rw [h2, raisedFlags_none]
    · rw [raiseChain_link, h2, t2]
  have a3 : s3.alarms = s.alarms := by
    simp only [s3]
    split
    · simp only [s2]
      split <;> rfl
    · rw [raiseChain_frame]
      simp only [s2]
      split <;> rfl
  have h4 : s4.link = s3.link ∧ s4.alarms = s3.alarms ∧ s4.time = s3.time := by
    simp only [s4]
    split
    · exact ⟨rfl, rfl, rfl⟩
    · rw [requestLockoutWrite_frame]
      exact ⟨rfl, rfl, rfl⟩
  split
  · next h =>
    have ha : alarmsAfter c r s = s.alarms := by
      simp only [alarmsAfter, inLockout]
      exact if_pos h
    rw [h4.1, h3, ha]
    simp
  · next h =>
    have ha : alarmsAfter c r s =
        { s4.alarms with lockoutChains := s4.alarms.lockoutChains.set c (decide (modeState r.mode = .lockout)) } := by
      simp only [alarmsAfter, inLockout]
      rw [h4.2.1, a3]
      exact if_neg h
    unfold setLockoutReason
    rw [setAlarms_link, ← ha, h4.1, h4.2.1, h4.2.2, t3, a3, h3]
    simp only [raisedFlags_twice, Bool.false_or]

/-! ## What finishes an event -/

/-- A message that starts changes nothing but the Control Link. -/
theorem startNotice_frame (s : State) :
    startNotice s = { s with link := { s.link with
      noticePending := (startNotice s).link.noticePending, transmitting := (startNotice s).link.transmitting } } := by
  unfold startNotice
  extract_lets n
  split
  · rfl
  · split
    · rfl
    · split <;> rfl

/-- A reply or a notice that starts changes nothing but what waits to be sent and is sent. -/
theorem startReply_frame (s : State) :
    startReply s = { s with link := { s.link with
      reply := (startReply s).link.reply
      noticePending := (startReply s).link.noticePending, transmitting := (startReply s).link.transmitting } } := by
  unfold startReply
  split
  · rfl
  · rw [startNotice_frame]

/-- The transmit line's choice changes nothing but what waits to be sent and is sent. -/
theorem startTransmit_frame (s : State) :
    startTransmit s = { s with link := { s.link with
      reply := (startTransmit s).link.reply
      noticePending := (startTransmit s).link.noticePending
      transmitting := (startTransmit s).link.transmitting } } := by
  unfold startTransmit
  split
  · split
    · split
      · rfl
      · rw [startReply_frame]
    · rw [startReply_frame]
  · rfl

/-- A transmit line in use is left alone. -/
theorem startTransmit_busy (s : State) (h : s.link.transmitting ≠ none) : startTransmit s = s := by
  unfold startTransmit
  rw [if_neg]
  rintro ⟨_, h'⟩
  exact h h'

/-- A part that is not running starts no message. -/
theorem startTransmit_stopped (s : State) (h : s.phase ≠ .running) : startTransmit s = s := by
  unfold startTransmit
  rw [if_neg]
  rintro ⟨h', _⟩
  exact h h'

/-- What finishes an event drives the lines and changes what waits to be sent and is sent, nothing else. -/
theorem finish_frame (s : State) :
    finish s = { s with lines := linesOf s, link := { s.link with
      reply := (finish s).link.reply
      noticePending := (finish s).link.noticePending
      transmitting := (finish s).link.transmitting } } := by
  unfold finish
  rw [startTransmit_frame]
  rfl

/-- What finishes an event in a running part serves the transmit line. -/
theorem finish_link (s : State) (h : s.phase = .running) : (finish s).link = servedLink s.link (finish s) := by
  have hp : (driveLines s).phase = .running := h
  unfold finish startTransmit
  by_cases ht : s.link.transmitting = none
  · have ht' : (driveLines s).link.transmitting = none := ht
    rw [if_pos ⟨hp, ht'⟩]
    have hn : ∀ r : Option Message, s.link.reply = r → s.link.overlap.filter (·.ready) = none →
        (startReply (driveLines s)).link = servedLink s.link (startReply (driveLines s)) := by
      intro r hr ho
      unfold servedLink
      simp only [ht, ho, ne_eq, not_true, if_false]
      unfold startReply
      have hd : (driveLines s).link.reply = s.link.reply := rfl
      rw [hd]
      cases hr' : s.link.reply with
      | some m => rfl
      | none =>
        simp only []
        unfold startNotice
        have hc : pendingChain (driveLines s).link.noticePending
            = [0, 1, 2, 3].findSome? fun c => (s.link.noticePending.chains.get c).map fun since => (c, since) := rfl
        simp only [hc]
        cases [0, 1, 2, 3].findSome? fun c => (s.link.noticePending.chains.get c).map fun since => (c, since) with
        | some c => simp [sendMessage, driveLines, hr']; rfl
        | none =>
          simp only []
          have h1 : (driveLines s).link.noticePending.site = s.link.noticePending.site := rfl
          have h2 : (driveLines s).link.noticePending.capture = s.link.noticePending.capture := rfl
          rw [h1, h2]
          cases s.link.noticePending.site with
          | some since => simp [sendMessage, driveLines, hr']; rfl
          | none =>
            cases s.link.noticePending.capture with
            | some since => simp [sendMessage, driveLines, hr']; rfl
            | none => rfl
    have hov : (driveLines s).link.overlap = s.link.overlap := rfl
    rw [hov]
    cases ho : s.link.overlap with
    | none => exact hn _ rfl (by rw [ho]; rfl)
    | some o =>
      simp only []
      cases hr : o.ready with
      | false => exact hn _ rfl (by rw [ho]; simp [hr])
      | true =>
        have hf : s.link.overlap.filter (·.ready) = some o := by rw [ho]; simp [hr]
        unfold servedLink
        simp only [ht, hf, ne_eq, not_true, if_false]
        rfl
  · have ht' : ¬ ((driveLines s).phase = .running ∧ (driveLines s).link.transmitting = none) := fun hh => ht hh.2
    rw [if_neg ht']
    unfold servedLink
    simp [ht, driveLines]

/-- The lines depend on the phase, the chains and the alarm reasons alone. -/
theorem linesOf_congr {s t : State} (hp : t.phase = s.phase) (hc : t.chains = s.chains) (ha : t.alarms = s.alarms) :
    linesOf t = linesOf s := by
  unfold linesOf
  rw [hp, hc, ha]

/-- After an event is finished, the lines are as the state gives them. -/
theorem finish_lines (s : State) : (finish s).lines = linesOf (finish s) := by
  rw [finish_frame]
  exact (linesOf_congr rfl rfl rfl).symm

/-- The phase, and every other field but the lines and the link, pass through. -/
@[simp] theorem finish_phase (s : State) : (finish s).phase = s.phase := by rw [finish_frame]
@[simp] theorem finish_pending (s : State) : (finish s).pending = s.pending := by rw [finish_frame]
@[simp] theorem finish_time (s : State) : (finish s).time = s.time := by rw [finish_frame]
@[simp] theorem finish_pins (s : State) : (finish s).pins = s.pins := by rw [finish_frame]
@[simp] theorem finish_intake (s : State) : (finish s).intake = s.intake := by rw [finish_frame]
@[simp] theorem finish_chains (s : State) : (finish s).chains = s.chains := by rw [finish_frame]
@[simp] theorem finish_site (s : State) : (finish s).site = s.site := by rw [finish_frame]
@[simp] theorem finish_fastMute (s : State) : (finish s).fastMute = s.fastMute := by rw [finish_frame]
@[simp] theorem finish_tracker (s : State) : (finish s).tracker = s.tracker := by rw [finish_frame]
@[simp] theorem finish_levelBus (s : State) : (finish s).levelBus = s.levelBus := by rw [finish_frame]
@[simp] theorem finish_alarms (s : State) : (finish s).alarms = s.alarms := by rw [finish_frame]
@[simp] theorem finish_capture (s : State) : (finish s).capture = s.capture := by rw [finish_frame]
@[simp] theorem finish_store (s : State) : (finish s).store = s.store := by rw [finish_frame]
@[simp] theorem finish_nv (s : State) : (finish s).nv = s.nv := by rw [finish_frame]
@[simp] theorem finish_array (s : State) : (finish s).array = s.array := by rw [finish_frame]
@[simp] theorem finish_latches (s : State) : latchesOf (finish s) = latchesOf s := by rw [finish_frame]; rfl
@[simp] theorem finish_recordOf (s : State) (c : ChainNo) : recordOf (finish s) c = recordOf s c := by
  rw [finish_frame]
  rfl

end Sys2Proof.Machine
end

