-- ==== Sys2Proof/Laws/ChainFrame.lean ====
section
/-! SUPPORT. What an event at a chain, a request and a site event leave as they were, once for all of them. -/

namespace Sys2Proof.Machine

/-- An inbox that changed leaves the chain's record. -/
theorem recordOf_set_inbox (s : State) (c : ChainNo) (b : ChainInbox) :
    (((s.chains.set c { s.chains.get c with inbox := b }).get c)).record = recordOf s c := by
  rw [Quad.get_set_same]
  rfl

/-- What committing record `r` of chain `c` and finishing leaves, where `u` is the state between: the chain frame, and the
Control Link it serves. The state the record is committed to, `s1`, differs from `s` by what the event took from the
chain's inbox, the capture records handed over and the Control Link. -/
theorem finishCommit_core {dt : Nat} {c : ChainNo} {b : ChainInbox} {p : Profile} {l : List HandedRecord}
    {k k' : ControlLink} {r : ChainRecord} {s s1 u : State}
    (h : s1 = { s with
      time := s.time + dt
      chains := s.chains.set c { s.chains.get c with inbox := b, profile := p }
      capture := { s.capture with handed := l }
      link := k })
    (hu : u = { commitChain c r s1 with link := k' }) :
    ChainFrame dt c { record := r, inbox := b, profile := p } l s (finish u)
      ∧ modeState (recordOf (finish u) c).mode = modeState r.mode ∧ (recordOf (finish u) c).limiter = r.limiter
      ∧ (commitChain c r s1).link = { k with
          noticePending := raisedFlags
            (if modeState r.mode = modeState (recordOf s c).mode ∧ r.limiter = (recordOf s c).limiter then none
              else some c)
            (decide ((finish u).alarms ≠ s.alarms)) false (finish u).time k } := by
  have hrec : recordOf s1 c = recordOf s c := by
    rw [h]
    simp [recordOf]
  have hbus : busAfter c r s1.time s1 = busAfter c r (s.time + dt) s := by
    unfold busAfter
    rw [hrec, h]
  have hal : alarmsAfter c r s1 = alarmsAfter c r s := by
    unfold alarmsAfter
    rw [hrec, h]
  have hlatch : latchesOf (finish u) = latchesOf (commitChain c r s1) := by
    rw [finish_latches, hu]
    rfl
  have hf := commitChain_frame c r s1
  rw [hbus, hal] at hf
  have hn := commitChain_nv c r s1
  rw [hrec, ← hlatch] at hn
  have hk := commitChain_link c r s1
  rw [hrec, hal] at hk
  generalize commitChain c r s1 = v at hf hn hk hu
  have hchains : u.chains = s.chains.set c { record := r, inbox := b, profile := p } := by
    rw [hu]
    show v.chains = _
    rw [hf, h]
    simp
  have hr : recordOf (finish u) c = r := by
    rw [finish_recordOf]
    simp [recordOf, hchains]
  have halarms : (finish u).alarms = alarmsAfter c r s := by
    rw [finish_alarms, hu]
    show v.alarms = _
    rw [hf]
  have htime : (finish u).time = s1.time := by
    rw [finish_time, hu]
    show v.time = _
    rw [hf]
  refine ⟨⟨?_, ?_, ?_, halarms, ?_, ?_, finish_lines u, ?_⟩, by rw [hr], by rw [hr], ?_⟩
  · simp [hchains]
  · intro d hd
    simp [hchains, Quad.get_set_other _ _ hd]
  · rw [finish_levelBus, hu]
    show v.levelBus = _
    rw [hf]
  · rw [finish_nv]
    have : u.nv = v.nv := by rw [hu]
    rw [this, hn, h]
  · rw [finish_capture, hu]
    show v.capture = _
    rw [hf, h]
  · rw [finish_frame, hu, hf, h]
  · rw [halarms, htime, hk, h]

/-- An event at chain `c` that commits record `r` and is then finished. -/
theorem finishCommit_frame {dt : Nat} {c : ChainNo} {b : ChainInbox} {p : Profile} {l : List HandedRecord}
    {r : ChainRecord} {s s1 : State} (hp : s.phase = .running)
    (h : s1 = { s with
      time := s.time + dt
      chains := s.chains.set c { s.chains.get c with inbox := b, profile := p }
      capture := { s.capture with handed := l } }) :
    ChainFrame dt c { record := r, inbox := b, profile := p } l s (finish (commitChain c r s1))
      ∧ ChainNotices c s (finish (commitChain c r s1)) := by
  obtain ⟨hf, hm, hl, hk⟩ := finishCommit_core (k := s.link) (k' := (commitChain c r s1).link)
    (u := commitChain c r s1) h rfl
  have hrun : (commitChain c r s1).phase = .running := by
    rw [commitChain_frame, h]
    exact hp
  refine ⟨hf, ?_⟩
  unfold ChainNotices chainFlags
  rw [hm, hl, finish_link _ hrun, hk]

end Sys2Proof.Machine
end

