-- ==== Sys2Proof/Laws/ChainRecords.lean ====
section
/-! SUPPORT. What the operations on a chain record do, each said once: a recomposition, an evaluation's steps 1 to 6, a
trip entry, the lockout decision; and what a chain event leaves of the inhibit line. -/

namespace Sys2Proof.Machine

/-- A recomposition, in the terms claims use. -/
theorem recompose_to (r : ChainRecord) : RecomposedTo r (recompose r) := by
  have hm : (compose r).mode = r.mode := rfl
  have hl : (compose r).permitted = leastComponent r := rfl
  have ha : (compose r).applied = r.applied := rfl
  unfold recompose followComposition
  simp only [hm, hl, ha]
  split
  · next h =>
    split
    · next h' => exact ⟨rfl, rfl, rfl, by simp [h, runState, h'], by simp [h, h']⟩
    · next h' => exact ⟨rfl, rfl, rfl, by simp [h, runState, ha]; omega, by simp [h, hl, h', hm]⟩
  · next h => exact ⟨rfl, rfl, rfl, by simp [h, runState], by simp [h]⟩
  · next h1 h2 =>
    refine ⟨rfl, rfl, rfl, ?_, ?_⟩
    · rw [ha, if_neg]
      cases hr : r.mode <;> simp_all [runState]
    · rw [if_neg, hm]
      exact fun h => h1 h.1

/-- Steps 1 to 6 of an evaluation, in the terms claims use. -/
theorem evaluateRecord_to (p : Profile) (x : ChainReadings) (returned : Bool) (r : ChainRecord) :
    EvaluatedTo p x returned r (evaluateRecord p x returned r) := by
  refine ⟨rfl, rfl, rfl, rfl, rfl, ?_, ?_, rfl, rfl, rfl, rfl⟩
  · intro v hv
    have h : reflectedRatio p.fmin x.forward x.reflected = some v := hv
    show mismatchCeiling p (reflectedRatio p.fmin x.forward x.reflected) = _
    rw [h]
    rfl
  · intro hv
    have h : reflectedRatio p.fmin x.forward x.reflected = none := hv
    show mismatchCeiling p (reflectedRatio p.fmin x.forward x.reflected) = _
    rw [h]
    rfl

/-- A chain's record after a trip entry, in the terms claims use. -/
theorem enterHoldoff_to {now : Nat} {p : Profile} {cause : TripCause} {k : DwellClass} (h : causeClass cause = some k)
    (r : ChainRecord) :
    enterHoldoff now p cause r = trippedRecord cause (dwellOf p k) now r.tripList r := by
  simp only [enterHoldoff, trippedRecord, newDwell, h]

/-- A name added to a set of checks is in it, with those that were, and no other. -/
theorem addCheck_gains (k : Check) (set : List Check) : SetGains k set (addCheck k set) := by
  intro j
  simp [addCheck]
  intro _
  cases j <;> simp [allChecks]

/-- A chain outside QUALIFY has no set to add to. -/
theorem addFailure_other {k : Check} {r : ChainRecord} (h : ∀ set, r.mode ≠ .qualify set) : addFailure k r = r := by
  unfold addFailure
  split
  · next h' => exact absurd h' (h _)
  · rfl

/-- A chain in QUALIFY adds the name. -/
theorem addFailure_qualify {k : Check} {r : ChainRecord} {set : List Check} (h : r.mode = .qualify set) :
    addFailure k r = { r with mode := .qualify (addCheck k set) } := by
  unfold addFailure
  rw [h]

/-- No arc line of a chain's set is high. -/
theorem mappedArcHigh_false (pins : Pins) (map : Oct Byte) (c : ChainNo) :
    mappedArcHigh pins map c = false ↔ ∀ k, pins.arcs.get k = true → inSet (map.get k) c = false := by
  obtain ⟨a, _, _, _, _, _⟩ := pins
  obtain ⟨⟨a0, a1, a2, a3⟩, ⟨a4, a5, a6, a7⟩⟩ := a
  obtain ⟨⟨m0, m1, m2, m3⟩, ⟨m4, m5, m6, m7⟩⟩ := map
  simp [mappedArcHigh, Oct.toList, Quad.toList, Fin.forall_fin_succ, Oct.get, Quad.get, octPlace]

/-- The checks a chain fails, one by one. -/
theorem failingChecks_set {s : State} {c : ChainNo} {r : ChainRecord} (hf : r.flowRate = (recordOf s c).flowRate) :
    FailingSet s c (r.readings.map (·.tout)) r.latch (failingChecks s c r) := by
  have ht : heldTout r = r.readings.map (·.tout) := rfl
  have hm : ∀ k, k ∈ failingChecks s c r ↔ checkPasses s c r k = false := by
    intro k
    simp only [failingChecks, List.mem_filter, Bool.not_eq_true']
    exact and_iff_right (by cases k <;> simp [allChecks])
  refine ⟨?_, ?_, ?_, ?_, ?_, ?_, ?_, ?_, ?_⟩ <;> rw [hm]
  · simp [checkPasses]
  · simp [checkPasses]
  · cases h : r.readings <;> simp [checkPasses, heldTout, h]
  · simp [checkPasses, hf]
  · have := mappedArcHigh_false s.pins (profileOf s c).arcMap c
    cases hh : mappedArcHigh s.pins (profileOf s c).arcMap c
    · simp only [checkPasses, hh, Bool.not_false, Bool.true_eq_false, false_iff]
      rintro ⟨k, h1, h2⟩
      rw [this.mp hh k h1] at h2
      cases h2
    · simp only [checkPasses, hh, Bool.not_true, true_iff]
      by_contra hn
      rw [this.mpr fun k h1 => by
        cases h2 : inSet ((profileOf s c).arcMap.get k) c
        · rfl
        · exact absurd ⟨k, h1, h2⟩ hn] at hh
      cases hh
  · simp [checkPasses]
  · simp [checkPasses]
  · simp [checkPasses]
    cases s.site.record.feederTrip <;> simp
  · simp [checkPasses]

/-- The lockout decision, in the terms claims use. -/
theorem decideLockout_to (s : State) (c : ChainNo) (r : ChainRecord) (hf : r.flowRate = (recordOf s c).flowRate) :
    LockoutDecided s c (siteClock s) r (decideLockout s c r) := by
  unfold decideLockout
  extract_lets r1
  split
  · next h =>
    exact ⟨rfl, fun _ => ⟨rfl, rfl⟩, fun h' => absurd h (Nat.not_le.mpr h'), rfl⟩
  · next h =>
    exact ⟨rfl, fun h' => absurd h' h, fun _ => ⟨⟨_, rfl, failingChecks_set hf⟩, rfl⟩, rfl⟩

/-- No check fails exactly when every check of Table 1-4 passes. -/
theorem failingChecks_nil {s : State} {c : ChainNo} {r : ChainRecord} {tout : Int} (h : heldTout r = some tout)
    (hf : r.flowRate = (recordOf s c).flowRate) (hl : r.latch = (recordOf s c).latch) :
    failingChecks s c r = [] ↔ ChecksPass s c tout := by
  simp only [failingChecks, List.filter_eq_nil_iff, allChecks]
  constructor
  · intro hh
    have hp : ∀ k, checkPasses s c r k = true := by
      intro k
      have := hh k (by cases k <;> simp)
      simpa using this
    refine ⟨?_, ?_, ?_, ?_, ?_, ?_, ?_, ?_, ?_⟩
    · simpa [checkPasses] using hp .chainFresh
    · simpa [checkPasses] using hp .siteFresh
    · simpa [checkPasses, h] using hp .temp
    · simpa [checkPasses, hf] using hp .flow
    · have := hp .arcClear
      simp only [checkPasses, Bool.not_eq_true'] at this
      exact (mappedArcHigh_false _ _ _).mp this
    · simpa [checkPasses] using hp .surgeClear
    · simpa [checkPasses] using hp .interlock
    · simpa [checkPasses] using hp .siteOk
    · simpa [checkPasses, hl] using hp .latch
  · intro hp k _
    have := (mappedArcHigh_false s.pins (profileOf s c).arcMap c).mpr hp.arcClear
    obtain ⟨h1, h2, h3, h4, h5, h6, h7, h8, h9⟩ := hp
    cases k <;> simp [checkPasses, *]

/-- A chain event that leaves its chain outside RAMP and ACTIVE leaves its inhibit asserted. -/
theorem inhibit_asserted {dt : Nat} {c : ChainNo} {x : Chain} {l : List HandedRecord} {s t : State}
    (hf : ChainFrame dt c x l s t) (hm : runState x.record.mode = none) : t.lines.inhibit.get c = true := by
  rw [hf.lines]
  unfold linesOf
  split
  · exact Quad.get_fill _ _
  · simp [hf.chain, inhibitFor, hm]

/-- A chain event that leaves its chain in RAMP or ACTIVE, in a part that runs, leaves its inhibit released. -/
theorem inhibit_released {dt : Nat} {c : ChainNo} {x : Chain} {l : List HandedRecord} {s t : State}
    (hp : s.phase = .running) (hf : ChainFrame dt c x l s t) (hm : runState x.record.mode ≠ none) :
    t.lines.inhibit.get c = false := by
  have hr : t.phase = .running := by
    rw [hf.rest]
    exact hp
  rw [hf.lines]
  unfold linesOf
  simp [heldAsserted, hr, hf.chain, inhibitFor, Option.isSome_iff_ne_none, hm]

/-! ## A chain event, finished -/

/-- An event taken from chain `c`'s inbox that commits record `r` and is finished. -/
theorem finishCommit_event {dt : Nat} {c : ChainNo} {b : ChainInbox} {r : ChainRecord} {s s1 : State}
    (hp : s.phase = .running) (h : s1 = { s with
      time := s.time + dt, chains := s.chains.set c { s.chains.get c with inbox := b } }) :
    ChainFrame dt c { s.chains.get c with record := r, inbox := b } s.capture.handed s (finish (commitChain c r s1))
      ∧ ChainNotices c s (finish (commitChain c r s1)) :=
  finishCommit_frame (p := profileOf s c) hp (by rw [h]; rfl)

/-- A slow trip taken from chain `c`'s inbox and finished: the trip entry, the capture record and the dwell. -/
theorem finishSlowTrip_event {dt : Nat} {c : ChainNo} {b : ChainInbox} {cause : TripCause} {k : DwellClass}
    {tripTime : Word32} {run : RunState} {a : Nat} {r : ChainRecord} {s s1 : State}
    (hp : s.phase = .running) (h : s1 = { s with
      time := s.time + dt, chains := s.chains.set c { s.chains.get c with inbox := b } })
    (hk : causeClass cause = some k) :
    ChainFrame dt c
        { s.chains.get c with
          record := trippedRecord cause (dwellOf (profileOf s c) k) (s.time + dt)
            (appendTrip cause tripTime r.tripList) r
          inbox := b }
        (handedBy c (s.time + dt)
          (slowTripCapture c cause tripTime run a (weightSum (appendTrip cause tripTime r.tripList))
            (trackerStateOf s.tracker) r) s) s (finish (slowTrip c cause tripTime run a r s1))
      ∧ ChainNotices c s (finish (slowTrip c cause tripTime run a r s1)) := by
  have e : slowTrip c cause tripTime run a r s1
      = commitChain c
          (trippedRecord cause (dwellOf (profileOf s c) k) (s.time + dt) (appendTrip cause tripTime r.tripList) r)
          (handRecord (chainSource c) (slowCapture s1 c cause tripTime run a r) s1) := by
    have he : profileOf s1 c = profileOf s c := by
      rw [h]
      simp [profileOf]
    unfold slowTrip
    simp only []
    rw [enterHoldoff_to hk, he, h]
    rfl
  rw [e]
  exact finishCommit_frame (p := profileOf s c) hp (by rw [h]; rfl)

end Sys2Proof.Machine
end

