-- ==== Sys2Proof/Laws/Wires.lean ====
section
/-! SUPPORT. What the wires carry is what was put on them: words from their bits, and messages from their frames. -/

namespace Sys2Proof.Machine

/-! ## Bits and words -/

@[simp] theorem bitsOfWord_length (w : Word16) : (bitsOfWord w).length = 16 := by simp [bitsOfWord]

/-- Sixteen bits make the word they were. -/
@[simp] theorem wordOf_bits (w : Word16) : wordOf (bitsOfWord w) = w := by
  apply BitVec.eq_of_getLsbD_eq
  intro i hi
  have h : i = 0 ∨ i = 1 ∨ i = 2 ∨ i = 3 ∨ i = 4 ∨ i = 5 ∨ i = 6 ∨ i = 7 ∨ i = 8 ∨ i = 9 ∨ i = 10 ∨ i = 11 ∨ i = 12
      ∨ i = 13 ∨ i = 14 ∨ i = 15 := by omega
  rcases h with rfl | rfl | rfl | rfl | rfl | rfl | rfl | rfl | rfl | rfl | rfl | rfl | rfl | rfl | rfl | rfl <;>
    simp [wordOf, bitsOfWord, List.range, List.range.loop, BitVec.getMsbD]

/-- The bits of one word and of the rest. -/
theorem bitsOfWords_cons (w : Word16) (ws : List Word16) :
    bitsOfWords (w :: ws) = bitsOfWord w ++ bitsOfWords ws := by simp [bitsOfWords]

@[simp] theorem bitsOfWords_length (ws : List Word16) : (bitsOfWords ws).length = 16 * ws.length := by
  induction ws with
  | nil => rfl
  | cons w ws ih =>
    rw [bitsOfWords_cons, List.length_append, ih, bitsOfWord_length, List.length_cons]
    omega

/-- The bits of words, and fewer than sixteen after them, make those words and leave those bits. -/
theorem wordsWithin_bits (ws : List Word16) (rest : List Bool) :
    wordsWithin ws.length (bitsOfWords ws ++ rest) = (ws, rest) := by
  induction ws with
  | nil => simp [wordsWithin, bitsOfWords]
  | cons w ws ih =>
    have e : bitsOfWords (w :: ws) ++ rest = bitsOfWord w ++ (bitsOfWords ws ++ rest) := by
      rw [bitsOfWords_cons, List.append_assoc]
    have hd : (bitsOfWord w ++ (bitsOfWords ws ++ rest)).drop 16 = bitsOfWords ws ++ rest :=
      List.drop_left' (bitsOfWord_length w)
    have ht : (bitsOfWord w ++ (bitsOfWords ws ++ rest)).take 16 = bitsOfWord w :=
      List.take_left' (bitsOfWord_length w)
    have hl : ¬ (bitsOfWord w ++ (bitsOfWords ws ++ rest)).length < 16 := by
      rw [List.length_append, bitsOfWord_length]
      omega
    rw [e, List.length_cons, wordsWithin, if_neg hl, hd, ht, ih, wordOf_bits]

/-- The words of a string of bits. -/
theorem wordsOf_bits (ws : List Word16) (rest : List Bool) (h : rest.length < 16) :
    wordsOf (bitsOfWords ws ++ rest) = (ws, rest) := by
  have e : (bitsOfWords ws ++ rest).length / 16 = ws.length := by
    rw [List.length_append, bitsOfWords_length]
    omega
  unfold wordsOf
  rw [e]
  exact wordsWithin_bits ws rest

/-- The words of whole words' bits. -/
@[simp] theorem wordsOf_words (ws : List Word16) : wordsOf (bitsOfWords ws) = (ws, []) := by
  have := wordsOf_bits ws [] (by decide)
  rwa [List.append_nil] at this

/-- A frame's bits make its words. -/
@[simp] theorem frameWords_bits (x : FrameWords) : frameWords (frameBits x) = some x := by
  obtain ⟨header, fields, check⟩ := x
  have e : frameBits ⟨header, fields, check⟩ = bitsOfWords (header :: fields ++ [check]) := by
    simp [frameBits, bitsOfWords]
  rw [e]
  simp [frameWords]

/-- One word's bits make it. -/
@[simp] theorem oneWord_bits (w : Word16) : oneWord (bitsOfWord w) = some w := by
  have h := wordsOf_words [w]
  have e : bitsOfWords [w] = bitsOfWord w := by simp [bitsOfWords]
  rw [e] at h
  simp [oneWord, h]

/-- The last fifteen bits of a string that ends with a word are that word's bits but the first. -/
theorem lastBits_word (bits : List Bool) (w : Word16) : lastBits 15 (bits ++ bitsOfWord w) = (bitsOfWord w).drop 1 := by
  unfold lastBits
  rw [List.length_append, bitsOfWord_length, List.drop_append]
  have h1 : bits.length + 16 - 15 = bits.length + 1 := by omega
  rw [h1]
  simp

/-- What the receiver holds after a frame. -/
theorem lastBits_frame (x : FrameWords) : lastBits 15 (frameBits x) = (bitsOfWord x.check).drop 1 := by
  have e : frameBits x = bitsOfWords (x.header :: x.fields) ++ bitsOfWord x.check := by
    simp [frameBits, bitsOfWords]
  rw [e, lastBits_word]

/-- The last bits of a string depend on its last bits alone. -/
theorem lastBits_lastBits {a b : Nat} (l t : List Bool) (h : a ≤ b + t.length) :
    lastBits a (lastBits b l ++ t) = lastBits a (l ++ t) := by
  have e : ∀ n (x : List Bool), lastBits n x = (x.reverse.take n).reverse := fun n x =>
    List.rtake_eq_reverse_take_reverse x n
  have hm : min (a - t.length) b = a - t.length := by omega
  simp only [e, List.reverse_append, List.reverse_reverse, List.take_append, List.length_reverse, List.take_take, hm]

/-- The bits received while HUNTING that complete a sync word at their last bit and at none before it match there. -/
theorem huntBits_match {held bits : List Bool} (hne : bits ≠ [])
    (h : ∀ n, n ≤ bits.length → 0 < n → (lastBits 16 (held ++ bits.take n) = bitsOfWord syncWord ↔ n = bits.length)) :
    huntBits held bits = .matched [] := by
  induction bits generalizing held with
  | nil => exact absurd rfl hne
  | cons b rest ih =>
    unfold huntBits
    by_cases hr : rest = []
    · subst hr
      have := (h 1 (by simp) (by decide)).mpr (by simp)
      rw [if_pos (by simpa using this)]
    · have h1 := h 1 (by simp) (by decide)
      have hlen : 0 < rest.length := List.length_pos_iff.mpr hr
      have hno : ¬ lastBits 16 (held ++ [b]) = bitsOfWord syncWord := by
        intro hc
        have h2 : 1 = (b :: rest).length := h1.mp hc
        rw [List.length_cons] at h2
        omega
      rw [if_neg hno]
      apply ih hr
      intro n hn hn0
      have h2 := h (n + 1) (by simpa using hn) (by omega)
      have e : lastBits 16 (lastBits 15 (held ++ [b]) ++ rest.take n) = lastBits 16 (held ++ (b :: rest).take (n + 1)) := by
        rw [lastBits_lastBits _ _ (by rw [List.length_take]; omega), List.take_succ_cons, List.append_assoc]
        rfl
      rw [e, h2]
      simp

/-- Bits that complete no sync word are skipped, and the last fifteen of them and of those held are held. -/
theorem huntBits_none {held bits : List Bool} (hl : bits = [] → held.length ≤ 15)
    (h : ∀ n, n ≤ bits.length → 0 < n → lastBits 16 (held ++ bits.take n) ≠ bitsOfWord syncWord) :
    huntBits held bits = .searching (lastBits 15 (held ++ bits)) := by
  induction bits generalizing held with
  | nil => simp [huntBits, lastBits, Nat.sub_eq_zero_of_le (hl rfl)]
  | cons b rest ih =>
    unfold huntBits
    have h1 : ¬ lastBits 16 (held ++ [b]) = bitsOfWord syncWord := h 1 (by simp) (by decide)
    rw [if_neg h1, ih]
    · rw [lastBits_lastBits _ _ (by omega), List.append_assoc]
      rfl
    · intro _
      simp only [lastBits, List.length_drop]
      omega
    · intro n hn hn0
      rw [lastBits_lastBits _ _ (by rw [List.length_take]; omega), List.append_assoc]
      exact h (n + 1) (by simpa using hn) (by omega)

/-! ## Frames of the control link -/

@[simp] theorem bytes16_length (n : Nat) : (bytes16 n).length = 2 := rfl

/-- A message that fits a frame is read back from it. -/
theorem readFrame_frameTail (m : Message) (h : m.body.length ≤ 248) : readFrame (frameTail m) = some m := by
  obtain ⟨kind, tag, body⟩ := m
  have h : body.length ≤ 248 := h
  have hn : (BitVec.ofNat 8 (body.length + 2)).toNat = body.length + 2 := by
    rw [BitVec.toNat_ofNat]
    omega
  have hlen : (frameTail ⟨kind, tag, body⟩).length - 2 = (frameInner ⟨kind, tag, body⟩).length := by
    simp [frameTail, frameCrc]
  have hc : frameCrcGood (frameTail ⟨kind, tag, body⟩) = true := by
    unfold frameCrcGood
    rw [hlen]
    simp [frameTail, frameCrc]
  have hg : frameComplete (frameTail ⟨kind, tag, body⟩) = true := by
    simp [frameComplete, frameTail, frameCrc, frameInner, frameHead, bytes8, lengthGood, hn]
    omega
  unfold readFrame
  rw [hc, hg]
  simp [frameTail, frameCrc, frameInner, frameHead, bytes8, bytes16]

end Sys2Proof.Machine
end

