-- ==== Sys2Proof/Laws/Requests.lean ====
section
/-! SUPPORT. What taking a request does, once for all of them: the state its owner serves it in, the reply it leaves,
and what stays as it was. -/

namespace Sys2Proof.Machine

/-- The state in which a request's owner serves it. -/
def requestState (dt : Nat) (kind tag : Byte) (s : State) : State :=
  { s with time := s.time + dt, link := { s.link with receiver := .hunting, inHand := some ⟨kind, tag⟩ } }

/-- A part that can take a request receives a message's frame: `take` takes it as the request in hand. -/
theorem receiveFrame_taken {dt : Nat} {m : Message} {take : State → State} {s : State} (h : CanTake s) :
    receiveFrame m take (elapse dt s) = take (requestState dt m.kind m.tag s) := by
  have hf : (setLinkReceiver .hunting (elapse dt s)).link.inHand = none := h.free
  simp only [receiveFrame, hf]
  rfl

/-- A frame of a request's kind is taken as that request. -/
theorem takeRequest_frame {dt : Nat} {kind tag : Byte} {n : Nat} {serve : List Byte → State → State × Answer}
    {body : List Byte} {s : State} (h : CanTake s) (hl : body.length ≤ 248) :
    whileRunning (takeRequest kind n serve (frameTail ⟨kind, tag, body⟩)) (elapse dt s)
      = serveRequest ⟨kind, tag, body⟩ n serve (requestState dt kind tag s) := by
  have hp : (elapse dt s).phase = .running := h.running
  have hin : inLinkFrame (elapse dt s) = true := h.received
  simp only [whileRunning, hp, if_true, takeRequest, readFrame_frameTail ⟨kind, tag, body⟩ hl, hin, Bool.true_and, beq_self_eq_true,
    receiveFrame_taken h]

/-- A request whose body has the length asked for is served, its answer's reply produced, and finished. -/
theorem takeRequest_taken {dt : Nat} {kind tag : Byte} {n : Nat} {serve : List Byte → State → State × Answer}
    {body : List Byte} {s : State} (h : CanTake s) (hl : body.length ≤ 248) (hb : body.length = n) :
    whileRunning (takeRequest kind n serve (frameTail ⟨kind, tag, body⟩)) (elapse dt s)
      = finish (produceReply kind tag (serve body (requestState dt kind tag s)).2
          (serve body (requestState dt kind tag s)).1) := by
  rw [takeRequest_frame h hl]
  simp only [serveRequest, hb, if_true]

/-- A request whose body has another length is refused BAD_LENGTH with the length expected. -/
theorem takeRequest_badLength {dt : Nat} {kind tag : Byte} {n : Nat} {serve : List Byte → State → State × Answer}
    {body : List Byte} {s : State} (h : CanTake s) (hl : body.length ≤ 248) (hb : body.length ≠ n) :
    whileRunning (takeRequest kind n serve (frameTail ⟨kind, tag, body⟩)) (elapse dt s)
      = finish (produceReply kind tag (.refuse .badLength (bytes8 n)) (requestState dt kind tag s)) := by
  rw [takeRequest_frame h hl]
  simp only [serveRequest, hb, if_false]

/-- A frame that completes while a request is in hand goes to the overlap slot, whatever its kind asks. -/
theorem takeRequest_overlap {dt : Nat} {kind tag : Byte} {n : Nat} {serve : List Byte → State → State × Answer}
    {body : List Byte} {s : State} (hp : s.phase = .running) (hin : inLinkFrame s = true)
    (hh : s.link.inHand.isSome = true) (hl : body.length ≤ 248) :
    whileRunning (takeRequest kind n serve (frameTail ⟨kind, tag, body⟩)) (elapse dt s)
      = overlapSlot kind tag (setLinkReceiver .hunting (elapse dt s)) := by
  have hp : (elapse dt s).phase = .running := hp
  have hin : inLinkFrame (elapse dt s) = true := hin
  obtain ⟨x, hx⟩ := Option.isSome_iff_exists.mp hh
  have hf : (setLinkReceiver .hunting (elapse dt s)).link.inHand = some x := hx
  simp only [whileRunning, hp, if_true, takeRequest, readFrame_frameTail ⟨kind, tag, body⟩ hl, hin, Bool.true_and, beq_self_eq_true,
    receiveFrame, hf]

/-- The link after a request's reply was produced and finished. -/
theorem finish_requestTaken {kind tag : Byte} {m : Message} {flags : NoticeFlags} {s u : State}
    (hp : u.phase = .running)
    (hl : u.link = { s.link with
      receiver := .hunting, inHand := some ⟨kind, tag⟩, reply := some m, noticePending := flags }) :
    RequestTaken kind tag m flags s (finish u) := by
  unfold RequestTaken
  rw [finish_link _ hp, hl]

/-- Finishing a state that differs from `s` by time and link alone. -/
theorem finish_linkFrame {dt : Nat} {s u : State} (h : u = { s with time := s.time + dt, link := u.link }) :
    LinkFrame dt s (finish u) := by
  refine ⟨?_, finish_lines u⟩
  rw [finish_frame]
  generalize linesOf u = l
  rw [h]

/-- An answer that accepts or refuses and changes nothing else. -/
theorem answer_unchanged {dt : Nat} {kind tag : Byte} {a : Answer} {m : Message} {s : State} (hp : s.phase = .running)
    (ha : ∀ u, produceReply kind tag a u = { u with link := { u.link with reply := some m } }) :
    LinkFrame dt s (finish (produceReply kind tag a (requestState dt kind tag s)))
      ∧ RequestTaken kind tag m s.link.noticePending s
          (finish (produceReply kind tag a (requestState dt kind tag s))) := by
  rw [ha]
  exact ⟨finish_linkFrame rfl, finish_requestTaken hp rfl⟩

/-- A request that commits record `r` of chain `c` and is accepted. -/
theorem finishCommit_request {dt : Nat} {kind tag : Byte} {c : ChainNo} {r : ChainRecord} {l : List HandedRecord}
    {body : List Byte} {s s1 : State} (hp : s.phase = .running)
    (h : s1 = { requestState dt kind tag s with capture := { s.capture with handed := l } }) :
    ChainFrame dt c { s.chains.get c with record := r } l s
        (finish (produceReply kind tag (.accept body) (commitChain c r s1)))
      ∧ RequestTaken kind tag (acceptance kind tag body)
          (chainFlags c s (finish (produceReply kind tag (.accept body) (commitChain c r s1)))) s
          (finish (produceReply kind tag (.accept body) (commitChain c r s1))) := by
  simp only [produceReply]
  generalize hu : ({ commitChain c r s1 with link := { (commitChain c r s1).link with
    reply := some (acceptance kind tag body) } } : State) = u
  obtain ⟨hf, hm, hl, hk⟩ := finishCommit_core (s := s) (dt := dt) (b := inboxOf s c) (p := profileOf s c)
    (k := { s.link with receiver := .hunting, inHand := some ⟨kind, tag⟩ }) (s1 := s1) (by
      rw [h]
      have e : ({ s.chains.get c with inbox := inboxOf s c, profile := profileOf s c } : Chain) = s.chains.get c := rfl
      rw [e, Quad.set_get]
      rfl) hu.symm
  refine ⟨hf, finish_requestTaken ?_ ?_⟩
  · rw [← hu]
    show (commitChain c r s1).phase = .running
    rw [commitChain_frame, h]
    exact hp
  · have hul : u.link = { (commitChain c r s1).link with reply := some (acceptance kind tag body) } := by rw [← hu]
    rw [hul, hk]
    unfold chainFlags
    rw [hm, hl, raisedFlags_congr (l := s.link) rfl rfl]
    rfl

/-! ## Chains named in a request -/

/-- A byte that holds a chain's number is that number's one-byte field. -/
theorem bytes8_chain {b : Byte} {c : ChainNo} (h : b.toNat = c.val) : bytes8 c.val = [b] := by
  simp [bytes8, ← h]

/-- A byte that holds a chain's number names the chain. -/
theorem chainOf_eq {b : Byte} {c : ChainNo} (h : b.toNat = c.val) : chainOf b = some c := by
  simp [chainOf, h]

/-- A request whose first byte names chain `c` is served at chain `c`. -/
theorem serveChain_eq {b : Byte} {c : ChainNo} {rest : List Byte} {serve : ChainNo → List Byte → State → State × Answer}
    {s : State} (h : b.toNat = c.val) : serveChain serve (b :: rest) s = serve c (b :: rest) s := by
  simp [serveChain, byteAt, chainOf_eq h]

/-- A committed record is the chain's record. -/
theorem commitChain_record (c : ChainNo) (r : ChainRecord) (s : State) : recordOf (commitChain c r s) c = r := by
  rw [commitChain_frame]
  simp [recordOf]

/-- Committing the record a chain holds changes nothing. -/
theorem commitChain_self (c : ChainNo) (s : State) : commitChain c (recordOf s c) s = s := by
  have h : (⟨(s.chains.get c).record, (s.chains.get c).inbox, (s.chains.get c).profile⟩ : Chain) = s.chains.get c := rfl
  simp only [commitChain, if_true, and_self, setRecord, setChain, chainOfState, recordOf]
  simp only [h, Quad.set_get]

/-- The acceptance that reports a chain's state after its record was committed. -/
theorem acceptChainState_commit (c : ChainNo) (r : ChainRecord) (s : State) :
    acceptChainState c (commitChain c r s)
      = (commitChain c r s, .accept (bytes8 c.val ++ bytes8 (stateCode (modeState r.mode)))) := by
  simp [acceptChainState, chainStateBody, commitChain_record]

end Sys2Proof.Machine
end

