-- ==== Sys2Proof/Laws/SiteFrame.lean ====
section
/-! SUPPORT. What an event at the Site Monitor leaves as it was, and what forming the site lines does. -/

namespace Sys2Proof.Machine

/-- Delivering to every chain's inbox changes nothing but the inboxes. -/
theorem deliverAll_inboxes (f : ChainInbox → ChainInbox) (s : State) :
    InboxesOnly (fun _ => f) s (deliverAll f s) := by
  intro c
  simp [deliverAll, inboxOf]

/-- The site lines of a set of readings, in the terms claims use. -/
theorem formSiteLines_formed (p : Profile) (x : SiteReadings) (r : SiteRecord) :
    SiteLinesFormed p x r (formSiteLines p x r) := by
  refine ⟨rfl, rfl, ?_, ?_, rfl, ⟨rfl, ?_⟩, rfl, ⟨rfl, rfl⟩⟩
  · intro v hv
    have h : reflectedRatio p.fminSite x.forward x.reflected = some v := hv
    simp [formSiteLines, h]
  · intro hv
    have h : reflectedRatio p.fminSite x.forward x.reflected = none := hv
    simp [formSiteLines, h]
  · simp [formSiteLines]

/-- What a site event delivers joins every inbox, in the order of the events. -/
theorem deliverSite_inboxes (x : SiteDelivery) (s : State) :
    InboxesOnly (fun _ b => { b with site := if x.isEmpty then b.site else b.site ++ [x] }) s (deliverSite x s) := by
  unfold deliverSite
  split
  · intro c
    rfl
  · exact deliverAll_inboxes _ s

/-- A delivery changes nothing but the inboxes. -/
theorem deliverSite_frame (x : SiteDelivery) (s : State) :
    deliverSite x s = { s with chains := (deliverSite x s).chains } := by
  unfold deliverSite
  split <;> rfl

/-- A site event that is then finished: it is a site frame if it was one but for the lines and what a free line started. -/
theorem finish_siteFrame {dt : Nat} {x : SiteMonitor} {f : ChainInbox → ChainInbox} {a : AlarmReasons}
    {l : List HandedRecord} {raised : Bool} {s u : State} (hp : s.phase = .running) (hsite : u.site = x)
    (hin : InboxesOnly (fun _ => f) s u) (hal : u.alarms = a) (hcap : u.capture = { s.capture with handed := l })
    (hlink : u.link = { s.link with noticePending := raisedFlags none raised false u.time s.link })
    (hrest : u = { s with
      time := s.time + dt, site := u.site, chains := u.chains, alarms := u.alarms, capture := u.capture
      lines := u.lines, link := u.link }) : SiteFrame dt x f a l raised s (finish u) := by
  have hrun : u.phase = .running := by
    rw [hrest]
    exact hp
  refine ⟨?_, ?_, ?_, ?_, finish_lines _, ?_, ?_⟩
  · rw [finish_site]
    exact hsite
  · intro c
    rw [finish_chains]
    exact hin c
  · rw [finish_alarms]
    exact hal
  · rw [finish_capture]
    exact hcap
  · rw [finish_link _ hrun, hlink, finish_time]
  · rw [finish_frame]
    generalize linesOf u = lines
    rw [hrest]

end Sys2Proof.Machine
end

