-- ==== Sys2Proof/Tests/Slice0.lean ====
section
/-! SUPPORT. Tests. Each expected value comes from the manual (its worked examples, its tables) and the comment names
where; the witness theorems show, statement by statement, states and operands that meet a statement's hypotheses. -/

namespace Sys2Proof.Tests

open Sys2Proof Sys2Proof.Machine

/-! ## Small states -/

/-- The state a command leaves. -/
def after (i : Instr) (s : State) : State :=
  match exec i s with
  | .next t => t
  | _ => s

/-- A part that has run for a second, its interlock closed, every chain in DISABLED. -/
def part : State :=
  driveLines
    { State.reset with
      phase := .running, time := 1000000, pins := { resetPins with ilk := true }
      site := startSite builtInProfile true }

/-- The part with chain 0's record changed and events waiting for it. -/
def atChain (f : ChainRecord → ChainRecord) (b : ChainInbox) : State :=
  { part with chains := { part.chains with
      q0 := { part.chains.q0 with record := f part.chains.q0.record, inbox := b } } }

/-- A record composed from set-point 950 and its other components, P 500. -/
def inMode (m : ChainMode) (r : ChainRecord) : ChainRecord :=
  compose { r with mode := m, setPoint := 950, cap := 1000, freshness := .fresh }

/-- A chain in ACTIVE with A 500 and P 500. -/
def onAir (r : ChainRecord) : ChainRecord := { inMode .active r with applied := 500 }

/-- A snapshot of a chain in ACTIVE. -/
def snap : Snapshot :=
  { tripTime := 900, stateAtTrip := .active, applied := 500, permitted := 500, limiter := .blind, readings := none
    ratio := none, band := .a, flowRate := 0, siteCeiling := 1000, tracker := .search, firstInput := .arc
    arcLine := some 3 }

/-- A stamp of a pulse that qualified at 999,990 µs. -/
def stamp : PulseStamp := ⟨999990, 999, .search⟩

/-- The part with a control frame being received. -/
def receiving (s : State) : State := { s with link := { s.link with receiver := .inFrame 999000 } }

/-- The part with a sample frame being received since 999,500 µs. -/
def inFrame (s : State) : State := { s with intake := { s.intake with receiver := .inFrame 999500 } }

/-- The part with a Capture Queue of records `n` and the `k` after it. -/
def queueOf (n : Nat) (k : Nat) : List QueuedRecord :=
  (List.range k).map fun i => ⟨BitVec.ofNat 16 (n + i), false, ⟨.interlock, none, none, 0, 0, .search, none⟩⟩

/-! ## What a command may be (WellFormed) -/

/-- The frame of section 2.8.1, and one with two fields where a chain frame has three. -/
def frame281 : FrameWords := ⟨0x2447, [0x05DC, 0x0000, 0x0230], 0x23AB⟩

/-- A sample frame's command, by its words. -/
def sampleOf (dt : Nat) (x : FrameWords) : Instr :=
  .sampleFrame dt (bitsOfWord x.header) (bitsOfWords x.fields) (bitsOfWord x.check)

/-- Section 2.8.1's frame is a frame; with a field fewer, or with a bit lost, it is none. -/
theorem test_wellFormed_sample_frame :
    (sampleOf 0 frame281).wellFormed = true
      ∧ (sampleOf 0 ⟨0x2447, [0x05DC, 0x0000], 0x219B⟩).wellFormed = false
      ∧ (Instr.sampleFrame 0 ((bitsOfWord frame281.header).drop 1) (bitsOfWords frame281.fields)
        (bitsOfWord frame281.check)).wellFormed = false := by decide

/-- A header of group 4 is no strange group; one of group 5 is. -/
theorem test_wellFormed_refuses_known_group :
    (Instr.groupDiscard 0 (bitsOfWord 0x8000)).wellFormed = false
      ∧ (Instr.groupDiscard 0 (bitsOfWord 0xA000)).wellFormed = true := by decide

/-- A frame is short by a sync word behind its header, not by one out of alignment; and by 1 ms of silence, not by less. -/
theorem test_wellFormed_short_frames :
    (Instr.shortFrameSync ⟨0, bitsOfWords [0x2447, 0x5A3C]⟩).wellFormed = true
      ∧ (Instr.shortFrameSync ⟨0, false :: bitsOfWord 0x5A3C⟩).wellFormed = false
      ∧ (Instr.shortFrameTimeout ⟨0, bitsOfWord 0x2447, 1000⟩).wellFormed = true
      ∧ (Instr.shortFrameTimeout ⟨0, bitsOfWord 0x2447, 999⟩).wellFormed = false := by decide

/-- Bits end in the sync word at the first one they hold; the end of one may stand alone; 0x5A3D is none. -/
theorem test_wellFormed_sync_word :
    (Instr.syncWordMatch ⟨0, true :: bitsOfWord 0x5A3C⟩).wellFormed = true
      ∧ (Instr.syncWordMatch ⟨0, (bitsOfWord 0x5A3C).drop 3⟩).wellFormed = true
      ∧ (Instr.syncWordMatch ⟨0, bitsOfWord 0x5A3C ++ bitsOfWord 0x5A3C⟩).wellFormed = false
      ∧ (Instr.syncWordMatch ⟨0, bitsOfWord 0x5A3D⟩).wellFormed = false := by decide

/-- A skipped byte is no start byte, a stop bit found high no error, a good length byte no reason to discard, a gap of
5 ms none to time out (R164, R165). -/
theorem test_wellFormed_control_receiver :
    (Instr.controlStartByte ⟨0, [0x00, 0xC3]⟩).wellFormed = false
      ∧ (Instr.framingError ⟨0, characterBits 0xC3⟩).wellFormed = false
      ∧ (Instr.controlFrameDiscard ⟨0, [0x02]⟩).wellFormed = false ∧ (Instr.controlFrameDiscard ⟨0, [0x01]⟩).wellFormed = true
      ∧ (Instr.controlFrameGapTimeout ⟨0, [0x02], 5000⟩).wellFormed = false
      ∧ (Instr.controlFrameGapTimeout ⟨0, [0x02], 5001⟩).wellFormed = true := by decide

/-- 0x01 is a request kind (IDENTIFY), 0x08 is none; IDENTIFY's frame is no READ_SITE. -/
theorem test_wellFormed_kinds :
    (Instr.unknownKind 0 (frameHead ⟨0x01, 0, []⟩) [] (frameCrc ⟨0x01, 0, []⟩)).wellFormed = false
      ∧ (Instr.unknownKind 0 (frameHead ⟨0x08, 0, []⟩) [] (frameCrc ⟨0x08, 0, []⟩)).wellFormed = true
      ∧ (requestOf .identify 0 ⟨0x01, 0, []⟩).wellFormed = true
      ∧ (requestOf .readSite 0 ⟨0x01, 0, []⟩).wellFormed = false := by decide +kernel

/-- A frame whose bytes read as no message, its CRC bad or its length byte above 250 (R165), is no command's. -/
theorem test_wellFormed_refuses_unreadable_frame (head body crc : List Byte)
    (h : readFrame (head ++ body ++ crc) = none) :
    (Instr.overlapFrame 0 head body crc).wellFormed = false ∧ (Instr.unknownKind 0 head body crc).wellFormed = false
      ∧ ∀ row ∈ requestTable, (row.1 0 (head ++ body) crc).wellFormed = false := by
  have h' : readFrame (head ++ (body ++ crc)) = none := by rw [← List.append_assoc]; exact h
  simp [Instr.wellFormed, strangeOk, partsOk, requestOk, requestTable, h']

/-- A bad CRC, and a body of 249 bytes, which would need a length byte of 251. -/
theorem test_unreadable_frames :
    readFrame [0x02, 0x01, 0x05, 0x00, 0x00] = none
      ∧ ∀ rest : List Byte, readFrame (0xFB :: rest) = none := by
  refine ⟨by decide +kernel, fun rest => ?_⟩
  have h : frameComplete (0xFB :: rest) = false := by
    simp only [frameComplete, show lengthGood 0xFB = false from rfl, Bool.false_and]
  simp only [readFrame, h, Bool.false_and, Bool.false_eq_true, if_false]

/-! ## Arithmetic, from the manual's worked examples -/

/-- Section 3.12.1: F 1500, Q 180 give R 120; F 1200, Q 45 give R 37. -/
theorem test_ratio : reflectedRatio 20 1500 180 = some 120 ∧ reflectedRatio 20 1200 45 = some 37
    ∧ reflectedRatio 20 19 5 = none := by decide

/-- Section 3.12.1 (M of R 120 on 40, 200, 300) and the reject line of section 4.7. -/
theorem test_foldback : foldback 120 40 200 300 = 650 ∧ foldback 721 700 950 400 = 950 ∧ foldback 760 700 950 400 = 856
    ∧ foldback 830 700 950 400 = 688 ∧ foldback 832 700 950 400 = 684 ∧ foldback 950 700 950 400 = 400
    ∧ foldback 700 700 950 400 = 1000 := by decide

/-- The thermal fields of Table 3-3. -/
def table33 : Profile :=
  { builtInProfile with
    rs := 40, rt := 200, mf := 300, qmax := 400, e1 := 450, e2 := 550, e3 := 620, h := 20, cA := 1000, cB := 1000
    gB := 10, cC := 850, gC := 25, cD := 600, gD := 40, ttrip := 700, trestart := 500 }

/-- Section 3.12.1, evaluations 2 to 4: 57.0 °C rises to C, 55.5 stays, 54.9 falls to B. -/
theorem test_bands : bandUpdate table33 .b 560 = .b ∧ bandUpdate table33 .b 570 = .c ∧ bandUpdate table33 .c 555 = .c
    ∧ bandUpdate table33 .c 549 = .b := by decide

/-- Section 3.12.1: Θ 890, 800, 838 and 901. -/
theorem test_thermal : thermalCeiling table33 .b (some 560) = 890 ∧ thermalCeiling table33 .c (some 570) = 800
    ∧ thermalCeiling table33 .c (some 555) = 838 ∧ thermalCeiling table33 .b (some 549) = 901 := by decide

/-- Section 2.8.1: the check word, the readings and the limited set of a chain frame. -/
theorem test_conditioning_chain : checkWord 0x2447 [0x05DC, 0x0000, 0x0230] = 0x23AB
    ∧ conditionChain 0x2447 [0x05DC, 0x0000, 0x0230] = (⟨1500, 20000, 560⟩, [2]) := by decide

/-- Section 2.8.1: a site frame's readings and limited set {FF, Trej, Pgas}. -/
theorem test_conditioning_site :
    conditionSite 0x8001 [0xFDE8, 0x0190, 0xFE0C, 0x0960] = (⟨60000, 400, -400, 2000⟩, [1, 3, 4]) := by decide

/-- Section 7.7.2: Pe after I 2012 from 2000, after I 1990 from 2001, and at the top of the band. -/
theorem test_estimate : nextEstimate 2000 2000 2012 = 2001 ∧ nextEstimate 2000 2001 1990 = 2000
    ∧ nextEstimate 2000 2250 2390 = 2250 := by decide

/-- R154: the built-in default meets every range and relation. -/
theorem test_builtIn_valid : profileValid builtInProfile = true := by decide

/-! ## One command each, from the manual's worked sequences -/

/-- The part with chain 0 in ACTIVE under Table 3-3's profile, A 800, and an evaluation waiting. -/
def evaluating : State :=
  { part with chains := { part.chains with
      q0 :=
        { record := { part.chains.q0.record with
            mode := .active, setPoint := 950, cap := 1000, blind := 1000, applied := 800, band := .b }
          inbox := { emptyInbox with intake := [.evaluation ⟨1500, 180, 560⟩ false] }
          profile := table33 } } }

/-- Section 3.12.1, evaluation 1: P 650 with limiter MISMATCH cuts A from 800 to 650 at once. -/
theorem test_evaluation_cuts_applied :
    recordOf (after (.chainEvaluation 0 0) evaluating) 0
      = { recordOf evaluating 0 with
          applied := 650, mismatch := 650, thermal := 890, permitted := 650, limiter := .mismatch
          readings := some ⟨1500, 180, 560⟩, ratio := some 120 } := by
  decide

/-- Section 1.11, step 6: with every check passing A is min(100, P) and the chain enters RAMP. -/
theorem test_release :
    (releaseChain builtInProfile { part.chains.q0.record with permitted := 700 }).applied = 100
      ∧ (releaseChain builtInProfile { part.chains.q0.record with permitted := 700 }).mode = .ramp := by decide

/-- Section 8.6: a tick at A 880 with P 890 adds 10 and enters ACTIVE; one at 100 adds 20. -/
theorem test_tick :
    (tickRecord part 0 { part.chains.q0.record with mode := .ramp, applied := 880, permitted := 890 }).applied = 890
      ∧ (tickRecord part 0 { part.chains.q0.record with mode := .ramp, applied := 880, permitted := 890 }).mode = .active
      ∧ (tickRecord part 0 { part.chains.q0.record with mode := .ramp, applied := 100, permitted := 890 }).applied = 120
      ∧ (tickRecord part 0 { part.chains.q0.record with mode := .ramp, applied := 100, permitted := 890 }).mode = .ramp := by
  decide

/-- Section 8.7: at t = 12 chain 2 wins with reductions of 0 and 2 and a raise of 3 pending; at t = 24 chain 0. -/
theorem test_bus_order :
    busWinner ⟨⟨684, 0, 684, 600⟩, ⟨some 650, none, some 650, some 610⟩, none, 1⟩ = some 2
      ∧ busWinner ⟨⟨684, 0, 650, 600⟩, ⟨some 640, none, none, some 610⟩, none, 2⟩ = some 0
      ∧ busWinner ⟨⟨640, 0, 650, 600⟩, ⟨none, none, none, some 610⟩, none, 0⟩ = some 3 := by decide

/-- Section 6.8: trips at 100 s, 250 s and 690 s with L 4 and a window of 600 s: LOCKOUT at 692 s, QUALIFY at 700 s. -/
theorem test_lockout_decision :
    let p := { builtInProfile with lockoutLimit := 4, tripWindow := 600 }
    let r := { part.chains.q0.record with
      mode := .holdoff .mismatch ⟨⟨200, 0⟩, 690000000, 0⟩
      tripList := [⟨100000, .arcConfirmed⟩, ⟨250000, .surge⟩, ⟨690000, .mismatch⟩] }
    let s := { part with chains := { part.chains with q0 := { part.chains.q0 with record := r, profile := p } } }
    (decideLockout { s with time := 692000000 } 0 r).mode = .lockout
      ∧ (decideLockout { s with time := 692000000 } 0 r).latch = true
      ∧ (decideLockout { s with time := 700000000 } 0 r).tripList = [⟨250000, .surge⟩, ⟨690000, .mismatch⟩]
      ∧ (decideLockout { s with time := 700000000 } 0 r).latch = false := by
  decide

/-- Section 6.9: chain 1's record joins a full queue as 116 with gap true, and record 100 is gone. -/
theorem test_capture_overflow :
    let q := joinQueue ⟨.arcFlash, none, none, 0, 0, .search, none⟩ { records := queueOf 100 16, next := 116, handed := [] }
    q.records.length = 16 ∧ (q.records.map (·.sequence)).head? = some 101
      ∧ q.records.getLast?.map (fun x => (x.sequence, x.gap)) = some (116, true) ∧ q.next = 117 := by decide

/-- Section 6.9: with 102 the oldest, RELEASE_CAPTURE(100) is NOT_FOUND, (103) SEQUENCE with detail 102, (102) accepted. -/
theorem test_release_capture :
    let s := { part with capture := { records := queueOf 102 16, next := 118, handed := [] } }
    (serveReleaseCapture [0, 100] s).2 = .refuse .notFound []
      ∧ (serveReleaseCapture [0, 103] s).2 = .refuse .sequence [0, 102]
      ∧ (serveReleaseCapture [0, 102] s).2 = .accept [1, 0, 103] := by decide

/-- Section 1.11, step 3: SET_LEVEL(2, 1200) is clamped to 1000, and the acceptance carries 1000. -/
theorem test_set_level_clamped : (serveSetLevel 2 [2, 0x04, 0xB0] part).2 = .accept [2, 0x03, 0xE8] := by decide

/-- Section 5.9: a surge makes ARC_FLASH into ARC_CONFIRMED; section 5.9.6: an arc makes SURGE so and records line 3. -/
theorem test_coincidence : surgeInClassify .arcFlash = .arcConfirmed ∧ surgeInClassify .surge = .surge
    ∧ arcInClassify 3 .surge { snap with arcLine := none } = (.arcConfirmed, { snap with arcLine := some 3 })
    ∧ arcInClassify 3 .arcFlash snap = (.arcFlash, snap) := by decide

/-- R161: a lockout record and a directory record read back what was written. -/
theorem test_records_read_back :
    lockoutContent (.bytes (recordBytes (latchByte ⟨false, false, true, false⟩))) = some ⟨false, false, true, false⟩
      ∧ directoryContent (directoryCell (.slot 1)) = some (.slot 1)
      ∧ directoryContent (directoryCell .builtIn) = some .builtIn ∧ directoryContent (erasedCell 3) = none := by decide

/-- R167: IDENTIFY under the default. -/
theorem test_identify : identifyBody part
    = [0x04, 0x40, 0x01, 0x44, 0x45, 0x46, 0x41, 0x55, 0x4C, 0x54, 0x20, 0x20, 0x20, 0x20, 0x20, 0, 0, 0x0F, 0x01] := by
  decide

/-- Table 8-3: the level word's check byte makes the exclusive-OR of its four bytes 0xFF. -/
theorem test_level_word : ∀ c : ChainNo, (levelWord c 700).foldl (· ^^^ ·) 0 = 0xFF := by decide

/-- The part with a transfer of level 700 to chain 2 under way for 5 µs: bit 15 of A2 02 BC E3, the last of 0x02. -/
def sendingLevel : State :=
  { part with levelBus := { part.levelBus with inFlight := some ⟨2, 700, 999995⟩ } }

/-- R141: LDATA carries the low bit of byte 2 while LCLK is low and then high; the bus idles in its last 4 bit periods. -/
theorem test_bus_lines : busLines sendingLevel 0 = ⟨false, false⟩ ∧ busLines sendingLevel 3 = ⟨true, true⟩
    ∧ busLines { sendingLevel with time := 1000006 } 0 = ⟨true, false⟩ ∧ busLines part 0 = ⟨true, false⟩ := by decide

/-- A RESET entered in the middle of a word takes both bus lines to idle, and the zeroing follows (R144). -/
theorem test_reset_idles_bus :
    busLines { sendingLevel with phase := .resetDue } 0 = ⟨false, false⟩
      ∧ busLines (after (.warmReset 0 .requested) { sendingLevel with phase := .resetDue }) 0 = ⟨true, false⟩
      ∧ busLines (elapse 1 (after (.warmReset 0 .requested) { sendingLevel with phase := .resetDue })) 0
          = ⟨false, true⟩ := by decide

/-- R26, R164: 0x5A3C most significant bit first; 0xC3 with its start bit, its low bit first and its stop bit. -/
theorem test_bits_on_the_wires :
    bitsOfWord 0x5A3C = [false, true, false, true, true, false, true, false,
        false, false, true, true, true, true, false, false]
      ∧ characterBits 0xC3 = [false, true, true, false, false, false, false, true, true, true]
      ∧ wordOf [true, false, false, false, false, false, false, false,
        false, false, false, false, false, false, false, true] = 0x8001 := by decide

/-- The step takes the front command, and an empty queue idles. -/
theorem test_step : step part = .next part
    ∧ step { part with pending := [.staleDeadline 1 .site, .gateEnd 1] }
      = exec (.staleDeadline 1 .site) { part with pending := [.gateEnd 1] } :=
  ⟨rfl, rfl⟩

/-! ## Witnesses: states and operands that meet the statements' hypotheses, clause by clause -/

/-- StepRunsFrontCommand: a queue with a command, and an empty one. -/
theorem witness_StepRunsFrontCommand :
    { part with pending := [.gateEnd 1] }.pending = .gateEnd 1 :: [] ∧ part.pending = [] := by decide

/-- WarmResetKeeps: RST_N falls on a running part; a RESET acceptance has been sent. -/
theorem witness_WarmResetKeeps :
    (ResetCause.rstLow = .rstLow ∧ part.phase ≠ .unpowered)
      ∧ (ResetCause.requested = .requested ∧ { part with phase := .resetDue }.phase = .resetDue) := by decide

/-- StartUpBeginsWhenRstNRises: a part held in reset. -/
theorem witness_StartUpBeginsWhenRstNRises : { part with phase := .held }.phase = .held := by decide

/-- A part in start-up since power-on whose lockout record, if any, is the given cell. -/
def starting (lockout : NvCell) : State := { State.reset with array := { erasedArray with lockout := lockout } }

/-- StartUpPlacesChains: the zeroing just over, with an invalid record, a set latch, a clear one. -/
theorem witness_StartUpPlacesChains :
    (starting (erasedCell 3)).phase = .startUp 0 ∧ 0 + Config.zeroingDelay + 48 ≤ (starting (erasedCell 3)).time + 49
      ∧ lockoutContent (starting (erasedCell 3)).array.lockout = none
      ∧ lockoutContent (starting (.bytes (recordBytes 0x01))).array.lockout = some ⟨true, false, false, false⟩
      ∧ inSet ({ builtInProfile with autoStart := 0x04 }).autoStart 2 = true ∧ inSet builtInProfile.autoStart 2 = false := by
  decide

/-- StartUpSetsStoreAndBlocks: the same start-up, with a directory that names a slot, one that names DEFAULT and none. -/
theorem witness_StartUpSetsStoreAndBlocks :
    (starting (erasedCell 3)).phase = .startUp 0 ∧ 0 + Config.zeroingDelay + 48 ≤ (starting (erasedCell 3)).time + 49
      ∧ directoryContent (directoryCell (.slot 2)) = some (.slot 2)
      ∧ directoryContent (directoryCell .builtIn) = some .builtIn
      ∧ directoryContent (starting (erasedCell 3)).array.directory = none := by decide

/-- ValidFrameIsAccepted: the chain frame of section 2.8.1, and a site frame. -/
theorem witness_ValidFrameIsAccepted :
    (inFrame part).phase = .running ∧ inSampleFrame (inFrame part) = true ∧ frameGroup frame281 = some (.chain 1)
      ∧ frame281.check = checkWord frame281.header frame281.fields ∧ headerFault frame281.header = false
      ∧ lastSequence (inFrame part) (.chain 1) ≠ some (headerSequence frame281.header)
      ∧ frameGroup ⟨0x8001, [1, 2, 3, 4], checkWord 0x8001 [1, 2, 3, 4]⟩ = some .site ∧ headerFault 0x8001 = false
      ∧ lastSequence (inFrame part) .site ≠ some (headerSequence 0x8001) := by decide

/-- The part whose chain group 1 last took sequence number 0x47. -/
def heard : State :=
  { inFrame part with intake := { (inFrame part).intake with
      chainGroup := (inFrame part).intake.chainGroup.set 1 ⟨some ⟨⟨0, 0, 0⟩, [], 0x47, 0⟩, .fresh, some 5, some 6⟩ } }

/-- DiscardOnlyCounts: a wrong check word, a fault flag, a repeated number; group 5; a sync word behind a header and three
words; 1 ms of silence behind a header and three bits, and 999 µs. -/
theorem witness_DiscardOnlyCounts :
    heard.phase = .running ∧ inSampleFrame heard = true
      ∧ frameGroup { frame281 with check := 0x23AA } = some (.chain 1)
      ∧ (0x23AA : Word16) ≠ checkWord 0x2447 [0x05DC, 0x0000, 0x0230] ∧ headerFault 0x3447 = true
      ∧ lastSequence heard (.chain 1) = some (headerSequence 0x2447) ∧ 5 ≤ headerGroup 0xA000
      ∧ heard.intake.receiver = .inFrame 999500 ∧ (0x5A3C : Word16) ∉ [(0x2447 : Word16), 1, 2, 3]
      ∧ headerGroup 0x2447 ≤ 4 ∧ ([1, 2, 3] : List Word16).length ≤ (if headerGroup 0x2447 = 4 then 4 else 3)
      ∧ [true, false, true].length < 16 ∧ 999500 + 1000 ≤ heard.time + 500 ∧ ¬ 1000 ≤ 999 := by decide

/-- ReceiversHuntAndFrame: held bits that are the first 13 of a sync word and its last three; bits that end in none; a
length byte of 1 and of 251; a bad CRC; a control frame 5 ms and 1 µs without a byte. -/
theorem witness_ReceiversHuntAndFrame :
    part.phase = .running ∧ part.intake.receiver = .hunting [] ∧ part.link.receiver = .hunting
      ∧ (∀ n, n < 4 → 0 < n →
          (lastBits 16 ((bitsOfWord 0x5A3C).take 13 ++ ((bitsOfWord 0x5A3C).drop 13).take n) = bitsOfWord 0x5A3C
            ↔ n = ((bitsOfWord 0x5A3C).drop 13).length))
      ∧ (∀ n, n < 3 → 0 < n → lastBits 16 ([true] ++ [false, true].take n) ≠ bitsOfWord 0x5A3C)
      ∧ (0xC3 : Byte) ∉ [(0x00 : Byte), 0xFF] ∧ (0x01 : Byte).toNat < 2 ∧ 250 < (0xFB : Byte).toNat
      ∧ 256 * (0x00 : Byte).toNat + (0x00 : Byte).toNat ≠ (crc16 [0x02, 0x01, 0x05]).toNat
      ∧ (receiving part).link.receiver = .inFrame 999000 ∧ 999000 + 5001 ≤ (receiving part).time + 4001
      ∧ readFrame [0x02, 0x01, 0x05, 0x00, 0x00] = none := by decide +kernel

/-- A group FRESH until `a` and STALE until `b`. -/
def aged {ρ : Type} (f : Freshness) (a b : Option Word32) : GroupRecord ρ := ⟨none, f, a, b⟩

/-- The part with every group in the given freshness. -/
def agedPart (f : Freshness) (a b : Option Word32) : State :=
  { part with intake := { part.intake with chainGroup := Quad.fill (aged f a b), siteGroup := aged f a b } }

/-- DeadlinesAgeGroups: the site clock stands exactly at the deadline, 1000 ms. -/
theorem witness_DeadlinesAgeGroups :
    (agedPart .fresh (some 1000) (some 1950)).phase = .running
      ∧ reached (siteClock (elapse 0 (agedPart .fresh (some 1000) (some 1950)))) 1000 = true
      ∧ ((agedPart .fresh (some 1000) (some 1950)).intake.chainGroup.get 3).freshness = .fresh
      ∧ ((agedPart .fresh (some 1000) (some 1950)).intake.chainGroup.get 3).staleDeadline = some 1000
      ∧ ((agedPart .stale none (some 1000)).intake.chainGroup.get 3).freshness = .stale
      ∧ ((agedPart .stale none (some 1000)).intake.chainGroup.get 3).lostDeadline = some 1000
      ∧ (agedPart .fresh (some 1000) (some 1950)).intake.siteGroup.staleDeadline = some 1000
      ∧ (agedPart .stale none (some 1000)).intake.siteGroup.lostDeadline = some 1000 := by decide

/-- The part with chain 0's flow line at a level and its filter armed or not, since 999,990 µs. -/
def flowing (high armed : Bool) : State :=
  { part with
    pins := { part.pins with flows := part.pins.flows.set 0 high }
    intake := { part.intake with flow := part.intake.flow.set 0 ⟨24, 0, 0, ⟨!high, armed, 999990⟩⟩ } }

/-- FlowIsCountedAndRated: an edge, 20 µs high and armed, 20 µs low and not armed; the gate is due, with a chain below the
flow minimum and one above it. -/
theorem witness_FlowIsCountedAndRated :
    (flowing true true).phase = .running ∧ (flowing true true).pins.flows.get 0 ≠ false
      ∧ (flowing true true).pins.flows.get 0 = true ∧ ((flowing true true).intake.flow.get 0).filter.armed = true
      ∧ ((flowing true true).intake.flow.get 0).filter.since + 20 ≤ (flowing true true).time + 10
      ∧ (flowing false false).pins.flows.get 0 = false
      ∧ ((flowing false false).intake.flow.get 0).filter.armed = false
      ∧ ((flowing false false).intake.flow.get 0).filter.since + 20 ≤ (flowing false false).time + 10
      ∧ (flowing true true).intake.gateDue ≤ (flowing true true).time + 0
      ∧ ¬ (((flowing true true).intake.flow.get 0).count * 4 < (flowing true true).store.active.flowMin)
      ∧ ((flowing true true).intake.flow.get 1).count * 4 < (flowing true true).store.active.flowMin := by decide

/-- FlowLossTripsRunningChain: a result at the dwell at a chain in ACTIVE, and one at a chain in DISABLED. -/
theorem witness_FlowLossTripsRunningChain :
    (atChain onAir { emptyInbox with flow := [⟨28, true⟩] }).phase = .running
      ∧ (inboxOf (atChain onAir { emptyInbox with flow := [⟨28, true⟩] }) 0).flow = ⟨28, true⟩ :: []
      ∧ runState (recordOf (atChain onAir { emptyInbox with flow := [⟨28, true⟩] }) 0).mode = some .active
      ∧ runState (recordOf (atChain id { emptyInbox with flow := [⟨28, true⟩] }) 0).mode = none := by decide

/-- Chain 0 with an evaluation waiting. -/
def evaluated (f : ChainRecord → ChainRecord) (x : ChainReadings) : State :=
  atChain f { emptyInbox with intake := [.evaluation x true] }

/-- EvaluationUpdatesRecordOnly: an evaluation at a chain in DISABLED. -/
theorem witness_EvaluationUpdatesRecordOnly :
    (evaluated id ⟨0, 0, 360⟩).phase = .running
      ∧ (inboxOf (evaluated id ⟨0, 0, 360⟩) 0).intake = .evaluation ⟨0, 0, 360⟩ true :: []
      ∧ (recordOf (evaluated id ⟨0, 0, 360⟩) 0).mode = .disabled none
      ∧ runState (recordOf (evaluated id ⟨0, 0, 360⟩) 0).mode = none := by decide

/-- EvaluationTripsOrFollows: Q 301 above Qmax 300; R exactly Rt 150; Tout exactly Ttrip 680; none of them. -/
theorem witness_EvaluationTripsOrFollows :
    (evaluated onAir ⟨1000, 301, 680⟩).phase = .running
      ∧ (inboxOf (evaluated onAir ⟨1000, 301, 680⟩) 0).intake = .evaluation ⟨1000, 301, 680⟩ true :: []
      ∧ runState (recordOf (evaluated onAir ⟨1000, 301, 680⟩) 0).mode = some .active
      ∧ (profileOf (evaluated onAir ⟨1000, 301, 680⟩) 0).qmax < 301
      ∧ reflectedRatio 20 1000 150 = some 150 ∧ (profileOf (evaluated onAir ⟨1000, 150, 0⟩) 0).rt ≤ 150
      ∧ (profileOf (evaluated onAir ⟨1000, 0, 680⟩) 0).ttrip ≤ 680
      ∧ ¬ (profileOf (evaluated onAir ⟨1000, 149, 679⟩) 0).qmax < 149
      ∧ reflectedRatio 20 1000 149 = some 149 ∧ ¬ (profileOf (evaluated onAir ⟨1000, 149, 679⟩) 0).rt ≤ 149
      ∧ ¬ (profileOf (evaluated onAir ⟨1000, 149, 679⟩) 0).ttrip ≤ 679 := by decide

/-- A part with fresh groups whose chain 0 is in QUALIFY with flow at the minimum and an evaluation waiting. -/
def qualifying : State :=
  { evaluated (fun r => { inMode (.qualify [.flow]) r with flowRate := 40 }) ⟨0, 0, 499⟩ with
    intake := (agedPart .fresh none none).intake }

/-- EvaluationReleasesQualifiedChain: a chain in QUALIFY whose checks all pass with Tout 499 and not with 500. -/
theorem witness_EvaluationReleasesQualifiedChain :
    qualifying.phase = .running ∧ (inboxOf qualifying 0).intake = .evaluation ⟨0, 0, 499⟩ true :: []
      ∧ (recordOf qualifying 0).mode = .qualify [.flow] ∧ ChecksPass qualifying 0 499 ∧ ¬ ChecksPass qualifying 0 500 :=
  ⟨by decide, by decide, by decide,
    ⟨by decide, by decide, by decide, by decide, by decide, by decide, by decide, by decide, by decide⟩,
    fun h => absurd h.temp (by decide)⟩

/-- Reset's record meets its invariant under any mode that drives nothing and needs no latch. -/
theorem recordSafe_inMode (m : ChainMode) (hr : runState m = none) (hl : m ≠ .lockout) :
    RecordSafe (inMode m part.chains.q0.record) :=
  ⟨fun _ => rfl, Nat.zero_le _, rfl, rfl, fun h => (by have : m = .ramp := h; subst this; cases hr), fun h => absurd h hl,
    fun h => (nomatch h)⟩

/-- A safe part with chain 0 as given and the lines driven. -/
theorem partSafe_atChain (f : ChainRecord → ChainRecord) (b : ChainInbox) (h : RecordSafe (f part.chains.q0.record))
    (hl : inLockout (f part.chains.q0.record) = false) : PartSafe (driveLines (atChain f b)) := by
  refine ⟨?_, rfl, ?_, rfl⟩
  · intro c
    match c with
    | 0 => exact h
    | 1 => exact ⟨fun _ => rfl, Nat.zero_le _, rfl, rfl, fun h => (nomatch h), fun h => (nomatch h), fun h => (nomatch h)⟩
    | 2 => exact ⟨fun _ => rfl, Nat.zero_le _, rfl, rfl, fun h => (nomatch h), fun h => (nomatch h), fun h => (nomatch h)⟩
    | 3 => exact ⟨fun _ => rfl, Nat.zero_le _, rfl, rfl, fun h => (nomatch h), fun h => (nomatch h), fun h => (nomatch h)⟩
  · intro c
    match c with
    | 0 => exact hl.symm
    | 1 => rfl
    | 2 => rfl
    | 3 => rfl

/-- Chain 0 with the change to LOST waiting. -/
def losing (f : ChainRecord → ChainRecord) : State :=
  driveLines (atChain f { emptyInbox with intake := [.wentLost 1000] })

/-- ChainTakesStaleAndLost: the change to STALE waits at a chain in ACTIVE and at one in QUALIFY; the change to LOST at a
safe part with chain 0 in ACTIVE, in QUALIFY and in DISABLED. -/
theorem witness_ChainTakesStaleAndLost :
    ((atChain onAir { emptyInbox with intake := [.wentStale] }).phase = .running
      ∧ (inboxOf (atChain onAir { emptyInbox with intake := [.wentStale] }) 0).intake = .wentStale :: []
      ∧ (recordOf (atChain onAir { emptyInbox with intake := [.wentStale] }) 0).mode = .active
      ∧ (recordOf (atChain (inMode (.qualify [])) { emptyInbox with intake := [.wentStale] }) 0).mode = .qualify [])
      ∧ PartSafe (losing onAir) ∧ PartSafe (losing (inMode (.qualify []))) ∧ PartSafe (losing (inMode (.disabled none)))
      ∧ (losing onAir).phase = .running ∧ (inboxOf (losing onAir) 0).intake = .wentLost 1000 :: []
      ∧ runState (recordOf (losing onAir) 0).mode = some .active
      ∧ (recordOf (losing (inMode (.qualify []))) 0).mode = .qualify []
      ∧ runState (recordOf (losing (inMode (.disabled none))) 0).mode = none :=
  ⟨by decide, partSafe_atChain _ _
      ⟨fun h => (nomatch h), by decide, rfl, rfl, fun h => (nomatch h), fun h => (nomatch h), fun h => (nomatch h)⟩ rfl,
    partSafe_atChain _ _ (recordSafe_inMode _ rfl (by decide)) rfl,
    partSafe_atChain _ _ (recordSafe_inMode _ rfl (by decide)) rfl, by decide, by decide, by decide, by decide,
    by decide⟩

/-- Chain 0 with what site events delivered waiting. -/
def delivered (f : ChainRecord → ChainRecord) (l : List SiteDelivery) : State := atChain f { emptyInbox with site := l }

/-- SiteCeilingChangeRecomposes: section 4.7's 760 waits at a chain in ACTIVE, alone and with a trip event. -/
theorem witness_SiteCeilingChangeRecomposes :
    (delivered onAir [⟨some 760, none, false⟩]).phase = .running
      ∧ (inboxOf (delivered onAir [⟨some 760, none, false⟩]) 0).site = ⟨some 760, none, false⟩ :: []
      ∧ (inboxOf (delivered onAir [⟨some 400, some .rejectOvertemp, false⟩]) 0).site
          = ⟨some 400, some .rejectOvertemp, false⟩ :: [] := by decide

/-- SiteTripTakenByState: each event waits, at a chain in ACTIVE, in QUALIFY and in DISABLED; a freshness loss waits before
a later change of X. -/
theorem witness_SiteTripTakenByState :
    (∀ x ∈ [SiteTrip.feederMismatch, .rejectOvertemp, .siteMeasLost],
      (delivered onAir [⟨none, some x, false⟩]).phase = .running
      ∧ (inboxOf (delivered onAir [⟨none, some x, false⟩]) 0).site = ⟨none, some x, false⟩ :: []
      ∧ runState (recordOf (delivered onAir [⟨none, some x, false⟩]) 0).mode = some .active
      ∧ (recordOf (delivered (inMode (.qualify [])) [⟨none, some x, false⟩]) 0).mode = .qualify []
      ∧ runState (recordOf (delivered id [⟨none, some x, false⟩]) 0).mode = none)
    ∧ (inboxOf (delivered (inMode (.qualify [])) [⟨none, none, true⟩, ⟨some 900, none, false⟩]) 0).site
        = ⟨none, none, true⟩ :: [⟨some 900, none, false⟩]
    ∧ (recordOf (delivered (inMode (.qualify [])) [⟨none, none, true⟩]) 0).mode = .qualify []
    ∧ (⟨none, none, true⟩ : SiteDelivery).ceiling = none ∧ (⟨none, none, true⟩ : SiteDelivery).trip = none
    ∧ (⟨some 760, none, false⟩ : SiteDelivery).loss = false := by decide

/-- InterlockSendsRunningChainToQualify: an opening at a chain in ACTIVE, QUALIFY and DISABLED; a closing. -/
theorem witness_InterlockSendsRunningChainToQualify :
    (atChain onAir { emptyInbox with interlock := [.opening] }).phase = .running
      ∧ (inboxOf (atChain onAir { emptyInbox with interlock := [.opening] }) 0).interlock = .opening :: []
      ∧ runState (recordOf (atChain onAir { emptyInbox with interlock := [.opening] }) 0).mode ≠ none
      ∧ (recordOf (atChain (inMode (.qualify [])) { emptyInbox with interlock := [.opening] }) 0).mode = .qualify []
      ∧ runState (recordOf (atChain id { emptyInbox with interlock := [.opening] }) 0).mode = none
      ∧ (inboxOf (atChain onAir { emptyInbox with interlock := [.closing] }) 0).interlock = .closing :: [] := by decide

/-- Chain 0 with an arc pulse and a surge waiting. -/
def struck (f : ChainRecord → ChainRecord) : State :=
  atChain f { emptyInbox with arcs := [⟨3, stamp⟩], surges := [stamp] }

/-- FastPulseMutesRunningChain: both pulses wait at a chain in ACTIVE and at one in RAMP. -/
theorem witness_FastPulseMutesRunningChain :
    (struck onAir).phase = .running ∧ (inboxOf (struck onAir) 0).arcs = ⟨3, stamp⟩ :: []
      ∧ (inboxOf (struck onAir) 0).surges = stamp :: [] ∧ runState (recordOf (struck onAir) 0).mode = some .active
      ∧ runState (recordOf (struck (inMode .ramp)) 0).mode = some .ramp := by decide

/-- CoincidenceConfirmsArc: both pulses wait at chains in CLASSIFY with ARC_FLASH, SURGE and ARC_CONFIRMED. -/
theorem witness_CoincidenceConfirmsArc :
    ∀ k ∈ [TripCause.arcFlash, .surge, .arcConfirmed],
      (struck (inMode (.classify k snap 1000490))).phase = .running
      ∧ (inboxOf (struck (inMode (.classify k snap 1000490))) 0).surges = stamp :: []
      ∧ (inboxOf (struck (inMode (.classify k snap 1000490))) 0).arcs = ⟨3, stamp⟩ :: []
      ∧ (recordOf (struck (inMode (.classify k snap 1000490))) 0).mode = .classify k snap 1000490 := by decide

/-- A dwell of 1.00 s and the given ticks, started at power-on. -/
def dwell (ticks : Nat) : Dwell := ⟨⟨100, 4⟩, 0, ticks⟩

/-- LatePulseOnlyRestartsDwell: both pulses wait at chains in HOLDOFF, QUALIFY, DISABLED and LOCKOUT. -/
theorem witness_LatePulseOnlyRestartsDwell :
    (struck (inMode (.holdoff .surge (dwell 4)))).phase = .running
      ∧ (recordOf (struck (inMode (.holdoff .surge (dwell 4)))) 0).mode = .holdoff .surge (dwell 4)
      ∧ ∀ m ∈ [ChainMode.qualify [], .disabled none, .lockout],
        (inboxOf (struck (inMode m)) 0).arcs = ⟨3, stamp⟩ :: [] ∧ (inboxOf (struck (inMode m)) 0).surges = stamp :: []
        ∧ modeState (recordOf (struck (inMode m)) 0).mode ∈ [ChainState.qualify, .disabled, .lockout] := by decide

/-- WindowExpiryMakesCauseFinal: a window that ends now, with each of the three causes. -/
theorem witness_WindowExpiryMakesCauseFinal :
    ∀ k ∈ [TripCause.arcFlash, .surge, .arcConfirmed],
      (atChain (inMode (.classify k snap 1000490)) emptyInbox).phase = .running
      ∧ (recordOf (atChain (inMode (.classify k snap 1000490)) emptyInbox) 0).mode = .classify k snap 1000490
      ∧ 1000490 ≤ (atChain (inMode (.classify k snap 1000490)) emptyInbox).time + 490 := by decide

/-- DwellEndDecidesLockout: a dwell whose 1.00 s ends now, its ticks taken. -/
theorem witness_DwellEndDecidesLockout :
    (atChain (inMode (.holdoff .surge (dwell 0))) emptyInbox).phase = .running
      ∧ (recordOf (atChain (inMode (.holdoff .surge (dwell 0))) emptyInbox) 0).mode = .holdoff .surge (dwell 0)
      ∧ (dwell 0).ticksLeft = 0
      ∧ (dwell 0).startedAt + (dwell 0).lengths.time * 10000
          ≤ (atChain (inMode (.holdoff .surge (dwell 0))) emptyInbox).time + 0 := by decide

/-- Chain 0 with a frame tick waiting. -/
def ticking (f : ChainRecord → ChainRecord) : State := atChain f { emptyInbox with ticks := 1 }

/-- FrameTickRaisesOrCounts: a tick waits at chains in RAMP and ACTIVE with A below P, in ACTIVE at P, in DISABLED, and in
HOLDOFF, one tick left with the time met, and two left. -/
theorem witness_FrameTickRaisesOrCounts :
    (ticking (inMode .ramp)).phase = .running ∧ (inboxOf (ticking (inMode .ramp)) 0).ticks = 0 + 1
      ∧ (recordOf (ticking (inMode .ramp)) 0).mode = .ramp
      ∧ (recordOf (ticking (inMode .ramp)) 0).applied < (recordOf (ticking (inMode .ramp)) 0).permitted
      ∧ (recordOf (ticking (inMode .active)) 0).mode = .active
      ∧ (recordOf (ticking (inMode .active)) 0).applied < (recordOf (ticking (inMode .active)) 0).permitted
      ∧ (recordOf (ticking onAir) 0).permitted ≤ (recordOf (ticking onAir) 0).applied
      ∧ modeState (recordOf (ticking id) 0).mode ∈ [ChainState.disabled, .qualify, .classify, .lockout]
      ∧ (recordOf (ticking (inMode (.holdoff .surge (dwell 1)))) 0).mode = .holdoff .surge (dwell 1)
      ∧ (dwell 1).ticksLeft = 1
      ∧ (dwell 1).startedAt + (dwell 1).lengths.time * 10000
          ≤ (ticking (inMode (.holdoff .surge (dwell 1)))).time + 0
      ∧ (dwell 2).ticksLeft ≠ 1 := by decide

/-- OwnTimersExpire: run-on that ends now. -/
theorem witness_OwnTimersExpire :
    (atChain (inMode (.disabled (some 1000000))) emptyInbox).phase = .running
      ∧ (recordOf (atChain (inMode (.disabled (some 1000000))) emptyInbox) 0).mode = .disabled (some 1000000)
      ∧ 1000000 ≤ (atChain (inMode (.disabled (some 1000000))) emptyInbox).time + 0 := by decide

/-- An INTERLOCK record. -/
def record : CaptureRecord := ⟨.interlock, none, none, 0, 1000, .search, none⟩

/-- The part with a record handed over and `k` in the queue. -/
def handing (k : Nat) : State :=
  { part with capture := { records := queueOf 100 k, next := BitVec.ofNat 16 (100 + k), handed := [⟨4, 1000000, record⟩] } }

/-- CaptureRecordJoinsQueue: a record waits, with 15 and with 16 in the queue; a record of chain 2 joins those of chain 1
and the Site Monitor of its own instant and an earlier one of the Site Monitor. -/
theorem witness_CaptureRecordJoinsQueue :
    (handing 15).phase = .running ∧ (handing 15).capture.handed = ⟨4, 1000000, record⟩ :: []
      ∧ (handing 15).capture.records.length < 16 ∧ 16 ≤ (handing 16).capture.records.length
      ∧ (∀ x ∈ [(⟨4, 5, record⟩ : HandedRecord), ⟨1, 9, record⟩, ⟨4, 9, record⟩], x.at_ ≤ 9)
      ∧ [(⟨4, 5, record⟩ : HandedRecord), ⟨1, 9, record⟩, ⟨4, 9, record⟩].Pairwise joinsBefore :=
  ⟨by decide, by decide, by decide, by decide, by decide, by simp [joinsBefore]⟩

/-- The part with an event waiting for the Site Monitor. -/
def siteEvent (x : IntakeEvent SiteReadings) : State := { part with site := { part.site with intake := [x] } }

/-- SiteEvaluationDeliversToChains: section 4.7's frame at 9.00 s waits. -/
theorem witness_SiteEvaluationDeliversToChains :
    (siteEvent (.evaluation ⟨6750, 68, 800, 180⟩ true)).phase = .running
      ∧ (siteEvent (.evaluation ⟨6750, 68, 800, 180⟩ true)).site.intake = .evaluation ⟨6750, 68, 800, 180⟩ true :: [] := by
  decide

/-- SiteAgesToStaleAndLost: both changes wait. -/
theorem witness_SiteAgesToStaleAndLost :
    (siteEvent .wentStale).phase = .running ∧ (siteEvent .wentStale).site.intake = .wentStale :: []
      ∧ (siteEvent (.wentLost 1000)).site.intake = .wentLost 1000 :: [] := by decide

/-- The part with ILK at a level, the interlock in a state, and the filter timing since 999,000 µs. -/
def interlocked (ilk : Bool) (x : Interlock) : State :=
  { part with
    pins := { part.pins with ilk := ilk }
    site := { part.site with record := { part.site.record with interlock := x, filterSince := some 999000 } } }

/-- InterlockQualifiesAfterOneMillisecond: an edge; 1 ms low while CLOSED; 1 ms high while OPEN. -/
theorem witness_InterlockQualifiesAfterOneMillisecond :
    part.phase = .running ∧ part.pins.ilk ≠ false ∧ (interlocked false .closed).site.record.interlock = .closed
      ∧ (interlocked false .closed).pins.ilk = false
      ∧ (interlocked false .closed).site.record.filterSince = some 999000
      ∧ 999000 + 1000 ≤ (interlocked false .closed).time + 0
      ∧ (interlocked true .opened).site.record.interlock = .opened ∧ (interlocked true .opened).pins.ilk = true := by
  decide

/-- The part with arc line 3, surge line 1 and FMK at a level and their filters in a state. -/
def filtering (high : Bool) (f : PulseFilter) : State :=
  { part with
    pins := { part.pins with arcs := part.pins.arcs.set 3 high, surges := part.pins.surges.set 1 high, fmk := high }
    fastMute := { part.fastMute with
      arcs := part.fastMute.arcs.set 3 ⟨f, 65535⟩, surges := part.fastMute.surges.set 1 ⟨f, 65534⟩ }
    tracker := { part.tracker with filter := f } }

/-- PulseFiltersFollowLines: an edge of each line in each filter state, and each line's low just timed. -/
theorem witness_PulseFiltersFollowLines :
    (∀ high ∈ [false, true], ∀ f ∈ [PulseFilter.idle, .timing 999990, .held, .rearm 999998],
      (filtering (!high) f).phase = .running ∧ (filtering (!high) f).pins.arcs.get 3 ≠ high
      ∧ ((filtering (!high) f).fastMute.arcs.get 3).filter = f ∧ (filtering (!high) f).pins.surges.get 1 ≠ high
      ∧ ((filtering (!high) f).fastMute.surges.get 1).filter = f ∧ (filtering (!high) f).pins.fmk ≠ high
      ∧ (filtering (!high) f).tracker.filter = f)
    ∧ (filtering false (.rearm 999998)).pins.arcs.get 3 = false
    ∧ 999998 + 2 ≤ (filtering false (.rearm 999998)).time + 0 ∧ 999999 + 1 ≤ part.time + 0 := by decide

/-- QualifiedPulsesAreForwarded: each line 2 µs high, its count at 65,535 and at 65,534. -/
theorem witness_QualifiedPulsesAreForwarded :
    (filtering true (.timing 999998)).phase = .running ∧ (filtering true (.timing 999998)).pins.arcs.get 3 = true
      ∧ ((filtering true (.timing 999998)).fastMute.arcs.get 3).filter = .timing 999998
      ∧ 999998 + 2 ≤ (filtering true (.timing 999998)).time + 0
      ∧ (filtering true (.timing 999998)).pins.surges.get 1 = true
      ∧ ((filtering true (.timing 999998)).fastMute.surges.get 1).filter = .timing 999998 := by decide

/-- The part with FMK 1 µs high and the tracker in a mode; its tracker time is 100,000 units, Tnu 2500. -/
def marking (m : TrackerMode) (last : Word32) : State :=
  { filtering true (.timing 999999) with
    tracker := { part.tracker with filter := .timing 999999, mode := m, lastTick := last } }

/-- MarkersAcquireLock: a first marker; a fourth good interval at Tnu − τ; a bad interval one unit below. -/
theorem witness_MarkersAcquireLock :
    (marking (.search none 0 102500) 100000).phase = .running ∧ (marking (.search none 0 102500) 100000).pins.fmk = true
      ∧ (marking (.search none 0 102500) 100000).tracker.filter = .timing 999999
      ∧ 999999 + 1 ≤ (marking (.search none 0 102500) 100000).time + 0
      ∧ (marking (.search (some 97812) 3 102500) 100000).tracker.mode = .search (some 97812) 3 102500
      ∧ goodCount 2500 (trackerUnit (marking (.search (some 97812) 3 102500) 100000).tracker (999999 + 1)) (some 97812) 3 = 4
      ∧ goodCount 2500 (trackerUnit (marking (.search (some 97812) 3 102500) 100000).tracker (999999 + 1)) (some 97813) 3 = 0 := by decide

/-- MarkersTrackPeriod: a marker at the window's early edge, and one a unit before it. -/
theorem witness_MarkersTrackPeriod :
    (marking (.locked 2500 7) 97656).phase = .running ∧ (marking (.locked 2500 7) 97656).pins.fmk = true
      ∧ (marking (.locked 2500 7) 97656).tracker.filter = .timing 999999
      ∧ (marking (.locked 2500 7) 97656).tracker.mode = .locked 2500 7
      ∧ insideWindow 2500 (trackerUnit (marking (.locked 2500 7) 97656).tracker (999999 + 1) - 97656).toNat = true
      ∧ insideWindow 2500 (trackerUnit (marking (.locked 2500 7) 97657).tracker (999999 + 1) - 97657).toNat = false := by decide

/-- TrackerTimersIssueTicks: fallback due now; a previous marker exactly 2 × Tnu old; a window one unit past its end. -/
theorem witness_TrackerTimersIssueTicks :
    (marking (.search none 0 100000) 97500).phase = .running
      ∧ (marking (.search none 0 100000) 97500).tracker.mode = .search none 0 100000
      ∧ reached (trackerTime (elapse 0 (marking (.search none 0 100000) 97500))) 100000 = true
      ∧ 2 * (10 * (marking (.search (some 95000) 2 100000) 97500).tracker.tn)
          ≤ (trackerTime (elapse 0 (marking (.search (some 95000) 2 100000) 97500)) - 95000).toNat
      ∧ 2500 + 2500 / 16 + 1 ≤ (trackerTime (elapse 0 (marking (.locked 2500 7) 97343)) - 97343).toNat := by decide

/-- ActivationReformsChain: an activation waits at a chain with readings, and at one with none. -/
theorem witness_ActivationReformsChain :
    (atChain onAir { emptyInbox with activations := [table33] }).phase = .running
      ∧ (inboxOf (atChain onAir { emptyInbox with activations := [table33] }) 0).activations = table33 :: []
      ∧ (recordOf (atChain onAir { emptyInbox with activations := [table33] }) 0).readings = none
      ∧ (recordOf (atChain (fun r => { onAir r with readings := some ⟨1500, 180, 560⟩ })
          { emptyInbox with activations := [table33] }) 0).readings = some ⟨1500, 180, 560⟩
      ∧ table33.fmin ≤ 1500 := by decide

/-- The part with an activation waiting at the Site Monitor, the Fast Mute Unit and the tracker. -/
def activating (p : Profile) : State :=
  { part with
    site := { part.site with
      activations := [p], record := { part.site.record with readings := some ⟨6750, 68, 800, 180⟩ } }
    fastMute := { part.fastMute with activations := [p] }
    tracker := { part.tracker with activations := [p] } }

/-- The part with an activation of another Tn waiting, its last tick 2000 tracker units ago. -/
def retuning (tn : Nat) : State :=
  { activating { table33 with tn := tn } with
    tracker := { (activating { table33 with tn := tn }).tracker with lastTick := trackerTime part - 2000 } }

/-- ActivationReachesOtherBlocks: an activation that keeps Tn waits at each block, and one that changes it; with a Tn of
200 the new fallback due is the activation's own tracker time, with 199 it has passed. -/
theorem witness_ActivationReachesOtherBlocks :
    (activating table33).phase = .running ∧ (activating table33).site.activations = table33 :: []
      ∧ (activating table33).site.record.readings = some ⟨6750, 68, 800, 180⟩ ∧ part.site.record.readings = none
      ∧ (activating table33).fastMute.activations = table33 :: []
      ∧ (activating table33).tracker.activations = table33 :: [] ∧ table33.tn = (activating table33).tracker.tn
      ∧ ({ table33 with tn := 200 } : Profile).tn ≠ (activating { table33 with tn := 200 }).tracker.tn
      ∧ 10 * 200 = (trackerTime (elapse 0 (retuning 200)) - (retuning 200).tracker.lastTick).toNat
      ∧ 10 * 199 < (trackerTime (elapse 0 (retuning 199)) - (retuning 199).tracker.lastTick).toNat := by decide

/-- The part with chain 1's transfer just over and the given levels waiting; section 8.7's last sent values. -/
def transferring (p : Quad (Option Nat)) : State :=
  { part with levelBus := ⟨⟨684, 684, 684, 600⟩, p, some ⟨1, 0, 999988⟩, 1⟩ }

/-- TransferEndServesNextChain: nothing waits; section 8.7's reductions of 0 and 2 wait; only the raise of 3 does. -/
theorem witness_TransferEndServesNextChain :
    (transferring ⟨none, none, none, none⟩).phase = .running
      ∧ (transferring ⟨none, none, none, none⟩).levelBus.inFlight = some ⟨1, 0, 999988⟩
      ∧ 999988 + 12 ≤ (transferring ⟨none, none, none, none⟩).time + 0
      ∧ (∀ c, (transferring ⟨none, none, none, none⟩).levelBus.pending.get c = none)
      ∧ (transferring ⟨some 650, none, some 650, some 610⟩).levelBus.lastSent.set 1 0 = ⟨684, 0, 684, 600⟩
      ∧ (2 : ChainNo) = (transferring ⟨some 650, none, some 650, some 610⟩).levelBus.lastServed + 1 + Fin.ofNat 4 0
      ∧ (transferring ⟨some 650, none, some 650, some 610⟩).levelBus.pending.get 2 = some 650 ∧ 650 < 684
      ∧ (3 : ChainNo) = (transferring ⟨none, none, none, some 610⟩).levelBus.lastServed + 1 + Fin.ofNat 4 1
      ∧ (transferring ⟨none, none, none, some 610⟩).levelBus.pending.get 3 = some 610 ∧ 600 < 610 := by decide

/-- The part with a write in progress since `started` and LOAD_END in hand. -/
def writing (w : NvWork) (started : Nat) : State :=
  { part with nv := { idleNv with inProgress := some ⟨w, started⟩ }, link := { part.link with inHand := some ⟨0x22, 9⟩ } }

/-- WriteEndRecordsAndStartsNext: each kind of write exactly at its 8 or 60 ms. -/
theorem witness_WriteEndRecordsAndStartsNext :
    (writing (.lockout (Quad.fill true)) 992000).phase = .running
      ∧ (writing (.lockout (Quad.fill true)) 992000).nv.inProgress = some ⟨.lockout (Quad.fill true), 992000⟩
      ∧ 992000 + 8000 ≤ (writing (.lockout (Quad.fill true)) 992000).time + 0
      ∧ (writing (.directory (.slot 2)) 992000).nv.inProgress = some ⟨.directory (.slot 2), 992000⟩
      ∧ (writing (.slot ⟨2, []⟩) 940000).nv.inProgress = some ⟨.slot ⟨2, []⟩, 940000⟩
      ∧ 940000 + 60000 ≤ (writing (.slot ⟨2, []⟩) 940000).time + 0
      ∧ (writing (.slot ⟨2, []⟩) 940000).link.inHand = some ⟨0x22, 9⟩ := by decide

/-- A state in which a request can be taken. -/
theorem canTake_receiving (s : State) (hp : s.phase = .running) (hf : s.link.inHand = none) : CanTake (receiving s) :=
  ⟨hp, rfl, hf⟩

/-- ReadsReplyWithSnapshot, and every statement about a request: a frame is being received and nothing is in hand. -/
theorem witness_ReadsReplyWithSnapshot : CanTake (receiving part) ∧ (0x03 : Byte).toNat = (3 : ChainNo).val :=
  ⟨canTake_receiving part rfl rfl, rfl⟩

/-- SetLevelTakesClampedValue: chain 3; the value 4; a body of two bytes. -/
theorem witness_SetLevelTakesClampedValue :
    CanTake (receiving part) ∧ (0x03 : Byte).toNat = (3 : ChainNo).val ∧ 4 ≤ (0x04 : Byte).toNat
      ∧ ([0x00, 0x01] : List Byte).length ≠ 3 :=
  ⟨canTake_receiving part rfl rfl, rfl, by decide, by decide⟩

/-- Chain 0 in a mode with a latch and a trip list, a request being received. -/
def asked (m : ChainMode) (latch : Bool) (l : List TripEntry) : State :=
  receiving (atChain (fun r => { inMode m r with latch := latch, tripList := l }) emptyInbox)

/-- ChainOnQualifiesOrLocksOut: DISABLED with the latch set; with the sum at L 3 and below it; ACTIVE. -/
theorem witness_ChainOnQualifiesOrLocksOut :
    CanTake (asked (.disabled none) true []) ∧ (0x00 : Byte).toNat = (0 : ChainNo).val
      ∧ (recordOf (asked (.disabled none) true []) 0).mode = .disabled none
      ∧ (recordOf (asked (.disabled none) true []) 0).latch = true
      ∧ (recordOf (asked (.disabled none) false []) 0).latch = false
      ∧ (recordOf (asked (.disabled none) false []) 0).applied = 0
      ∧ (profileOf (asked (.disabled none) false [⟨0, .arcConfirmed⟩, ⟨0, .surge⟩]) 0).lockoutLimit
          ≤ weightSum (recordOf (asked (.disabled none) false [⟨0, .arcConfirmed⟩, ⟨0, .surge⟩]) 0).tripList
      ∧ weightSum (recordOf (asked (.disabled none) false [⟨0, .arcConfirmed⟩]) 0).tripList
          < (profileOf (asked (.disabled none) false [⟨0, .arcConfirmed⟩]) 0).lockoutLimit
      ∧ (recordOf (asked (.disabled none) false []) 0).readings = none
      ∧ modeState (recordOf (asked .active false []) 0).mode ≠ .disabled :=
  ⟨canTake_receiving _ rfl rfl, rfl, by decide, by decide, by decide, by decide, by decide, by decide, by decide,
    by decide⟩

/-- ChainOffDisables: DISABLED, CLASSIFY with each cause, and every other state. -/
theorem witness_ChainOffDisables :
    CanTake (asked .ramp false []) ∧ (0x00 : Byte).toNat = (0 : ChainNo).val
      ∧ modeState (recordOf (asked (.disabled none) false []) 0).mode = .disabled
      ∧ (recordOf (asked (.classify .arcConfirmed snap 5) false []) 0).mode = .classify .arcConfirmed snap 5
      ∧ (recordOf (asked (.classify .surge snap 5) false []) 0).mode = .classify .surge snap 5
      ∧ ∀ m ∈ [ChainMode.qualify [], .ramp, .active, .holdoff .surge (dwell 0), .lockout],
        modeState (recordOf (asked m false []) 0).mode ∈ [ChainState.qualify, .ramp, .active, .holdoff, .lockout] :=
  ⟨canTake_receiving _ rfl rfl, rfl, by decide, by decide, by decide, by decide⟩

/-- ClearLockoutClearsLatch: LOCKOUT and DISABLED with the latch set; the latch clear. -/
theorem witness_ClearLockoutClearsLatch :
    CanTake (asked .lockout true []) ∧ (0x00 : Byte).toNat = (0 : ChainNo).val
      ∧ (recordOf (asked .lockout true []) 0).latch = true ∧ (recordOf (asked .lockout true []) 0).mode = .lockout
      ∧ (recordOf (asked .lockout true []) 0).applied = 0
      ∧ modeState (recordOf (asked (.disabled none) true []) 0).mode = .disabled
      ∧ (recordOf (asked .ramp false []) 0).latch = false :=
  ⟨canTake_receiving _ rfl rfl, rfl, by decide, by decide, by decide, by decide, by decide⟩

/-- ReleaseRemovesOnlyOldest: section 6.9's queue 102 to 117, asked for 102, 103 and 100. -/
theorem witness_ReleaseRemovesOnlyOldest :
    CanTake (receiving { part with capture := ⟨queueOf 102 16, 118, []⟩ })
      ∧ (103 : Word16).toNat = 256 * (0 : Byte).toNat + (103 : Byte).toNat
      ∧ (queueOf 102 16).head?.map (·.sequence) = some 102 ∧ (∃ y ∈ (queueOf 102 16).tail, y.sequence = 103)
      ∧ ∀ y ∈ queueOf 102 16, y.sequence ≠ 100 :=
  ⟨canTake_receiving _ rfl rfl, by decide, by decide, by decide, by decide⟩

/-- The part with a profile load in a state, a request being received. -/
def loading (l : Load) : State := receiving { part with store := { part.store with load := l } }

/-- ProfileLoadRunsItsTable: 10 s since the last segment; slot 2 and the value 3; a segment expected, one repeated, and
none left; a good image; a bad one. -/
theorem witness_ProfileLoadRunsItsTable :
    (loading (.opened 2 7 [] 0)).phase = .running ∧ (loading (.opened 2 7 [] 0)).store.load = .opened 2 7 [] 0
      ∧ 0 + 10000000 ≤ (loading (.opened 2 7 [] 0)).time + 9000000 ∧ CanTake (loading .closed)
      ∧ CanTake (loading (.committing 1)) ∧ (loading (.committing 1)).store.load = .committing 1
      ∧ (∀ k, (loading .closed).store.load ≠ .committing k) ∧ (0x02 : Byte).toNat = (2 : Fin 3).val
      ∧ 3 ≤ (0x03 : Byte).toNat ∧ (List.replicate 32 (0 : Byte)).length = 32 ∧ (0x07 : Byte).toNat = 7
      ∧ (0x06 : Byte).toNat ≠ 7 :=
  ⟨rfl, rfl, by decide, canTake_receiving _ rfl rfl, canTake_receiving _ rfl rfl, rfl, fun k h => (by cases h), rfl, by decide,
    by decide, rfl, by decide⟩

/-- ActivateAnnouncesProfile: DEFAULT; an INVALID slot; a WRITING one; the value 3; a part that can take it. -/
theorem witness_ActivateAnnouncesProfile :
    CanTake (receiving part) ∧ (0x0F : Byte) = 0x0F ∧ (0x02 : Byte).toNat = (2 : Fin 3).val
      ∧ (receiving part).store.slots.get 2 = .invalid .crc
      ∧ ((receiving part).store.slots.set 2 .writing).get 2 = .writing ∧ 3 ≤ (0x03 : Byte).toNat ∧ (0x03 : Byte) ≠ 0x0F :=
  ⟨canTake_receiving _ rfl rfl, rfl, rfl, by decide, by decide, by decide, by decide⟩

/-- The part with every source of notices enabled, a control frame being received and a site freshness loss to take at the
Site Monitor. -/
def noticing : State :=
  receiving { part with
    link := { part.link with noticeMask := ⟨Quad.fill true, true, true⟩ }
    site := { part.site with intake := [.wentStale] } }

/-- SET_NOTICES taken `dt` µs after a site change on a free line. -/
def afterDisabling (dt : Nat) : Option TxItem :=
  (after (requestOf .setNotices dt ⟨0x30, 5, [0x2F]⟩) (after (.siteStale 0) noticing)).link.transmitting.map (·.item)

/-- A site change and the SET_NOTICES that disables the site, falling together: the change taken first, its notice is not
sent, and the acceptance takes the line; a µs later the notice is on its way and goes on (R169, R171). -/
theorem test_disabling_notice_falls_together :
    (after (.siteStale 0) noticing).link.transmitting.map (·.item) = some (.notice .site 1000000)
      ∧ afterDisabling 0 = some .reply ∧ afterDisabling 1 = some (.notice .site 1000000) := by decide +kernel

/-- LinkServesItsOwnRequests: nothing in hand; a request in hand; a kind that is no request; a notice started for a flag of
the request's own instant, and one for an earlier flag. -/
theorem witness_LinkServesItsOwnRequests :
    (receiving part).phase = .running ∧ inLinkFrame (receiving part) = true ∧ (receiving part).link.inHand = none
      ∧ (0x40 : Byte) ∉ requestKinds
      ∧ { (receiving part).link with inHand := some ⟨0x22, 9⟩ }.inHand = some ⟨0x22, 9⟩
      ∧ (after (.siteStale 0) noticing).phase = .running ∧ inLinkFrame (after (.siteStale 0) noticing) = true
      ∧ (after (.siteStale 0) noticing).link.inHand = none
      ∧ (1000000 = (after (.siteStale 0) noticing).time + 0 ∧ (0x2F : Byte).getLsbD 4 = false)
      ∧ 1000000 ≠ (after (.siteStale 0) noticing).time + 1 := by decide

/-- The part with a message of an empty body on the line since power-on, and what else the link holds. -/
def sending (item : TxItem) (kind : Byte) (l : ControlLink) : State :=
  { part with link := { l with transmitting := some ⟨item, ⟨kind, 1, []⟩, 0⟩ } }

/-- TransmitLineServesInOrder: each kind of message just sent, at 19,200 bit/s 3.125 ms for an empty body. -/
theorem witness_TransmitLineServesInOrder :
    (∀ item ∈ [TxItem.reply, .busy, .notice .site 0],
      (sending item 0xBF part.link).phase = .running
      ∧ (sending item 0xBF part.link).link.transmitting = some ⟨item, ⟨0xBF, 1, []⟩, 0⟩
      ∧ (0 + 6) * 10 * 1000000 ≤ ((sending item 0xBF part.link).time + 0 - 0) * lineRate (sending item 0xBF part.link).link)
    ∧ { part.link with overlap := some ⟨0x01, 2, true⟩ }.overlap = some ⟨0x01, 2, true⟩
    ∧ { part.link with reply := some ⟨0x81, 1, []⟩ }.reply = some ⟨0x81, 1, []⟩ ∧ part.link.overlap = none
    ∧ (⟨⟨none, some 1000000, none, none⟩, some 3, some 4⟩ : NoticeFlags).chains.get 1 = some 1000000 := by decide

/-- WiresCarryTheirWords: a transfer under way, start-up's first µs, the zeroing's second, its last and the one after it, a message on the line; a level of
1000 and a body of 248 bytes. -/
theorem witness_WiresCarryTheirWords :
    sendingLevel.phase = .running ∧ sendingLevel.levelBus.inFlight = some ⟨2, 700, 999995⟩
      ∧ State.reset.phase = .startUp 0 ∧ 1 = 0 + Config.zeroingDelay ∧ State.reset.time < 1
      ∧ (0 : ChainNo).val = (2 - 1) / 12 ∧ 1 ≤ 48 ∧ (3 : ChainNo).val = (48 - 1) / 12 ∧ 1 + 48 ≤ 49 ∧ part.levelBus.inFlight = none
      ∧ { part with phase := .held }.phase = .held ∧ [true].length < 16 ∧ part.link.transmitting = none
      ∧ (sending (.notice .site 0) 0x71 part.link).link.transmitting = some ⟨.notice .site 0, ⟨0x71, 1, []⟩, 0⟩
      ∧ 1000 < 65536 ∧ (List.replicate 248 (0 : Byte)).length ≤ 248 := by decide +kernel

/-- RequestsAreCheckedInOrder: a row of each table with a body of a wrong length, chain 4, slot 3, designation 3; a request
in hand. -/
theorem witness_RequestsAreCheckedInOrder :
    (receiving part).phase = .running ∧ inLinkFrame (receiving part) = true ∧ (receiving part).link.inHand = none
      ∧ (requestTable.map fun row => row.2.1) = requestKinds
      ∧ (∀ row ∈ requestTable, (List.replicate (row.2.2 + 1) (0 : Byte)).length ≠ row.2.2)
      ∧ (∀ row ∈ chainRequestTable, 1 ≤ row.2.2) ∧ 4 ≤ (0x04 : Byte).toNat ∧ 3 ≤ (0x03 : Byte).toNat
      ∧ (0x03 : Byte) ≠ 0x0F ∧ { (receiving part).link with inHand := some ⟨0x22, 9⟩ }.inHand = some ⟨0x22, 9⟩ := by decide

/-- ImagesAreValidatedFieldByField: an image of zeros, whose name fails; the built-in default is that of some good image. -/
theorem witness_ImagesAreValidatedFieldByField :
    (List.replicate 256 (0 : Byte)).length = 256 ∧ ¬ FieldPasses (List.replicate 256 0) 1 :=
  ⟨List.length_replicate, fun h => absurd (h 0 (by decide)).1 (by decide +kernel)⟩

/-- BodiesCarryTheirFields: a tracker in each state; a queue that is empty and one that is not. -/
theorem witness_BodiesCarryTheirFields :
    (marking (.search none 3 102500) 0).tracker.mode = .search none 3 102500
      ∧ (marking (.locked 2500 7) 0).tracker.mode = .locked 2500 7 ∧ part.capture.records = []
      ∧ (handing 2).capture.records = (queueOf 100 1) ++ (queueOf 101 1)
      ∧ ((queueOf 100 1) ++ (queueOf 101 1)).head? = (queueOf 100 1).head? := by decide

/-- ReadingsLinesAndBandsKeepTheirBounds: a line with a start below its trip value; the default's bands. -/
theorem witness_ReadingsLinesAndBandsKeepTheirBounds :
    (40 : Int) < 200 ∧ 300 ≤ 1000 ∧ builtInProfile.e1 + builtInProfile.h < builtInProfile.e2
      ∧ builtInProfile.e2 + builtInProfile.h < builtInProfile.e3 ∧ 1 ≤ builtInProfile.h := by decide

/-- StepKeepsPartSafe: a safe part with a chain in QUALIFY takes a step. -/
theorem witness_StepKeepsPartSafe :
    PartSafe (losing (inMode (.qualify []))) ∧ BusSafe (losing (inMode (.qualify [])))
      ∧ step (losing (inMode (.qualify []))) = .next (losing (inMode (.qualify []))) :=
  ⟨partSafe_atChain _ _ (recordSafe_inMode _ rfl (by decide)) rfl, ⟨by decide, by decide, by decide⟩, rfl⟩

/-- StepKeepsBusSafe: the same step. -/
theorem witness_StepKeepsBusSafe :
    BusSafe (losing (inMode (.qualify []))) ∧ PartSafe (losing (inMode (.qualify [])))
      ∧ step (losing (inMode (.qualify []))) = .next (losing (inMode (.qualify []))) :=
  ⟨witness_StepKeepsPartSafe.2.1, witness_StepKeepsPartSafe.1, rfl⟩

/-- StepKeepsQueueAndTracker: a full queue 100 to 115; a tracker in LOCKED with 7 windows missed. -/
theorem witness_StepKeepsQueueAndTracker :
    CaptureSafe (handing 16) ∧ TrackerSafe (marking (.locked 2500 7) 97656)
      ∧ step (handing 16) = .next (handing 16) ∧ step (marking (.locked 2500 7) 97656) = .next (marking (.locked 2500 7) 97656) :=
  ⟨⟨by decide, by decide⟩, ⟨by decide, by decide, by decide⟩, rfl, rfl⟩

/-- StepKeepsStoreAndProfiles: the part takes a step. -/
theorem witness_StepKeepsStoreAndProfiles :
    StoreSafe part ∧ ProfilesSafe part ∧ TripsSafe part ∧ step part = .next part :=
  ⟨⟨fun _ => ⟨rfl, rfl, rfl⟩, fun h => (nomatch h), by decide, by decide, fun k n img t h => (nomatch h)⟩,
    ⟨Or.inl rfl, fun c => by
        match c with
        | 0 => exact ⟨Or.inl rfl, fun p h => (nomatch h)⟩
        | 1 => exact ⟨Or.inl rfl, fun p h => (nomatch h)⟩
        | 2 => exact ⟨Or.inl rfl, fun p h => (nomatch h)⟩
        | 3 => exact ⟨Or.inl rfl, fun p h => (nomatch h)⟩,
      ⟨Or.inl rfl, fun p h => (nomatch h)⟩, fun p h => (nomatch h), fun p h => (nomatch h), fun k h => by
        revert h
        match k with
        | 0 => exact fun h => (nomatch h)
        | 1 => exact fun h => (nomatch h)
        | 2 => exact fun h => (nomatch h),
      fun w h => (nomatch h), fun w h => (nomatch h)⟩,
    fun c => by
      match c with
      | 0 => exact ⟨Nat.zero_le _, fun e h => by cases h⟩
      | 1 => exact ⟨Nat.zero_le _, fun e h => by cases h⟩
      | 2 => exact ⟨Nat.zero_le _, fun e h => by cases h⟩
      | 3 => exact ⟨Nat.zero_le _, fun e h => by cases h⟩, rfl⟩

/-- StepKeepsTripListsBounded: the same step. -/
theorem witness_StepKeepsTripListsBounded : ProfilesSafe part ∧ TripsSafe part ∧ step part = .next part :=
  ⟨witness_StepKeepsStoreAndProfiles.2.1, witness_StepKeepsStoreAndProfiles.2.2.1, rfl⟩

end Sys2Proof.Tests
end

section
/-! PROOFS. What a chain's record, profile and inbox read after the state operations, and the checks of Table 1-4, which
depend on the chain's profile, the Intake, the lines in and the Site Monitor alone. -/

namespace Sys2Proof.Machine

@[simp] theorem elapse_recordOf (dt : Nat) (s : State) (c : ChainNo) : recordOf (elapse dt s) c = recordOf s c := rfl
@[simp] theorem elapse_profileOf (dt : Nat) (s : State) (c : ChainNo) : profileOf (elapse dt s) c = profileOf s c := rfl
@[simp] theorem elapse_inboxOf (dt : Nat) (s : State) (c : ChainNo) : inboxOf (elapse dt s) c = inboxOf s c := rfl

@[simp] theorem setInbox_recordOf (c d : ChainNo) (b : ChainInbox) (s : State) :
    recordOf (setInbox c b s) d = recordOf s d := by
  by_cases h : d = c
  · subst h
    simp [recordOf]
  · simp [recordOf, Quad.get_set_other _ _ h]

@[simp] theorem setInbox_profileOf (c d : ChainNo) (b : ChainInbox) (s : State) :
    profileOf (setInbox c b s) d = profileOf s d := by
  by_cases h : d = c
  · subst h
    simp [profileOf]
  · simp [profileOf, Quad.get_set_other _ _ h]

@[simp] theorem deliverAll_recordOf (f : ChainInbox → ChainInbox) (s : State) (c : ChainNo) :
    recordOf (deliverAll f s) c = recordOf s c := by
  simp [recordOf]

theorem setRecord_recordOf (c d : ChainNo) (r : ChainRecord) (s : State) :
    recordOf (setRecord c r s) d = if d = c then r else recordOf s d := by
  by_cases h : d = c
  · subst h
    simp [recordOf]
  · simp [recordOf, h, Quad.get_set_other _ _ h]

theorem commitChain_recordOf (c d : ChainNo) (r : ChainRecord) (s : State) :
    recordOf (commitChain c r s) d = if d = c then r else recordOf s d := by
  rw [commitChain_frame]
  exact setRecord_recordOf c d r s

/-- The checks read the chain's profile, the Intake's freshness, the lines in and the site record. -/
theorem failingChecks_congr {s t : State} {c : ChainNo} (hp : profileOf t c = profileOf s c) (hi : t.intake = s.intake)
    (hn : t.pins = s.pins) (hs : t.site = s.site) (r : ChainRecord) : failingChecks t c r = failingChecks s c r := by
  have h : ∀ k, checkPasses t c r k = checkPasses s c r k := by
    intro k
    simp only [checkPasses, hp, hi, hn, hs]
  simp only [failingChecks, h]

@[simp] theorem elapse_failingChecks (dt : Nat) (s : State) (c : ChainNo) (r : ChainRecord) :
    failingChecks (elapse dt s) c r = failingChecks s c r := failingChecks_congr rfl rfl rfl rfl r

@[simp] theorem setInbox_failingChecks (b : ChainInbox) (s : State) (c : ChainNo) (r : ChainRecord) :
    failingChecks (setInbox c b s) c r = failingChecks s c r :=
  failingChecks_congr (setInbox_profileOf c c b s) rfl rfl rfl r

end Sys2Proof.Machine
end

section
/-! PROOFS. What every step keeps of a chain's record: `RecordSafe` of each record the rules build. -/

namespace Sys2Proof.Machine

/-- P is the least component and the limiter the first that equals it (R57). -/
structure Composed (r : ChainRecord) : Prop where
  least   : r.permitted = leastComponent r
  limiter : r.limiter = firstLimiter r r.permitted

/-- The latch is set in LOCKOUT, and elsewhere at most in DISABLED (R6, R117). -/
structure LatchSafe (r : ChainRecord) : Prop where
  lockedOut : r.mode = .lockout → r.latch = true
  latched   : r.latch = true → modeState r.mode = .lockout ∨ modeState r.mode = .disabled

theorem compose_composed (r : ChainRecord) : Composed (compose r) := ⟨rfl, rfl⟩

theorem evaluateRecord_composed (p : Profile) (x : ChainReadings) (returned : Bool) (r : ChainRecord) :
    Composed (evaluateRecord p x returned r) := ⟨rfl, rfl⟩

theorem RecordSafe.composed {r : ChainRecord} (h : RecordSafe r) : Composed r := ⟨h.least, h.limiter⟩

/-- A clear latch is right in every state but LOCKOUT. -/
theorem latchSafe_of_clear {r : ChainRecord} (hl : r.latch = false) (hm : r.mode ≠ .lockout) : LatchSafe r :=
  ⟨fun h => absurd h hm, fun h => by simp [hl] at h⟩

/-- Outside LOCKOUT and DISABLED the latch is clear. -/
theorem RecordSafe.latch_clear {r : ChainRecord} (h : RecordSafe r) (hl : modeState r.mode ≠ .lockout)
    (hd : modeState r.mode ≠ .disabled) : r.latch = false := by
  cases hr : r.latch with
  | false => rfl
  | true => exact absurd (h.latched hr) (by simp [hl, hd])

/-- In RAMP and ACTIVE the latch is clear. -/
theorem RecordSafe.latch_clear_of_run {r : ChainRecord} (h : RecordSafe r) {run : RunState}
    (hr : runState r.mode = some run) : r.latch = false := by
  apply h.latch_clear <;> cases hm : r.mode <;> simp_all [runState, modeState]

/-- A composed record outside RAMP and ACTIVE with A 0. -/
theorem recordSafe_idle {r : ChainRecord} (hc : Composed r) (hl : LatchSafe r) (hm : runState r.mode = none)
    (ha : r.applied = 0) : RecordSafe r where
  noDrive _ := ha
  belowP := by omega
  least := hc.least
  limiter := hc.limiter
  ramp h := by simp [h, runState] at hm
  lockedOut := hl.lockedOut
  latched := hl.latched

/-- A composed record whose A has followed the composition (R14, R58). -/
theorem followComposition_safe {r : ChainRecord} (hc : Composed r) (hl : LatchSafe r)
    (ha : runState r.mode = none → r.applied = 0) : RecordSafe (followComposition r) := by
  unfold followComposition
  split
  · next hm =>
    have hlatch := hl.latched
    simp only [hm, modeState, reduceCtorEq, or_self, imp_false] at hlatch
    split
    · exact ⟨fun h => by simp [runState] at h, le_refl _, hc.least, hc.limiter, fun h => by simp at h,
        fun h => by simp at h, fun h => absurd h hlatch⟩
    · exact ⟨fun h => by simp [hm, runState] at h, by omega, hc.least, hc.limiter, fun _ => by omega,
        hl.lockedOut, hl.latched⟩
  · next hm =>
    exact ⟨fun h => by simp [hm, runState] at h, Nat.min_le_right _ _, hc.least, hc.limiter,
      fun h => by simp [hm] at h, hl.lockedOut, hl.latched⟩
  · next h1 h2 =>
    have hm : runState r.mode = none := by
      cases h : r.mode <;> simp_all [runState]
    exact recordSafe_idle hc hl hm (ha hm)

/-- A recomposition of a record whose components changed. -/
theorem recompose_safe {r : ChainRecord} (hl : LatchSafe r) (ha : runState r.mode = none → r.applied = 0) :
    RecordSafe (recompose r) := followComposition_safe (compose_composed r) ⟨hl.lockedOut, hl.latched⟩ ha

/-- A recomposition after a change of a safe record's components. -/
theorem RecordSafe.recompose {r r' : ChainRecord} (h : RecordSafe r) (hm : r'.mode = r.mode)
    (ha : r'.applied = r.applied) (hl : r'.latch = r.latch) : RecordSafe (recompose r') :=
  recompose_safe ⟨fun h' => hl.trans (h.lockedOut (hm.symm.trans h')), fun h' => by
      rw [hm]
      exact h.latched (hl.symm.trans h')⟩
    fun h' => ha.trans (h.noDrive (by rw [← hm]; exact h'))

/-- A chain in QUALIFY, CLASSIFY or HOLDOFF that stays among them. -/
theorem RecordSafe.replaceMode {r : ChainRecord} {m : ChainMode} (h : RecordSafe r) (hr : runState r.mode = none)
    (hl : modeState r.mode ≠ .lockout) (hd : modeState r.mode ≠ .disabled) (hm : runState m = none)
    (hm' : m ≠ .lockout) : RecordSafe { r with mode := m } :=
  recordSafe_idle ⟨h.least, h.limiter⟩ (latchSafe_of_clear (h.latch_clear hl hd) hm') hm (h.noDrive hr)

/-- A raised to at most P: the chain is in ACTIVE where it is P and in RAMP below it (R11, R14). -/
theorem raisedRecord_safe {r : ChainRecord} {a : Nat} (hc : Composed r) (hl : r.latch = false)
    (ha : a ≤ r.permitted) :
    RecordSafe { r with applied := a, mode := if a = r.permitted then .active else .ramp } := by
  split
  · exact ⟨fun h => by simp [runState] at h, ha, hc.least, hc.limiter, fun h => by simp at h,
      fun h => by simp at h, fun h => by simp [hl] at h⟩
  · next he =>
    exact ⟨fun h => by simp [runState] at h, ha, hc.least, hc.limiter, fun _ => Nat.lt_of_le_of_ne ha he,
      fun h => by simp at h, fun h => by simp [hl] at h⟩

/-- A name added to the set of a chain in QUALIFY keeps its record safe. -/
theorem RecordSafe.addFailure {r : ChainRecord} (h : RecordSafe r) (k : Check) : RecordSafe (addFailure k r) := by
  unfold Machine.addFailure
  split
  · next set hm =>
    exact h.replaceMode (by simp [hm, runState]) (by simp [hm, modeState]) (by simp [hm, modeState]) rfl (by simp)
  · exact h

/-- Entry to QUALIFY with a clear latch. -/
theorem enterQualify_safe {s : State} {c : ChainNo} {r : ChainRecord} (hc : Composed r) (hl : r.latch = false) :
    RecordSafe (enterQualify s c r) :=
  recordSafe_idle ⟨hc.least, hc.limiter⟩ (latchSafe_of_clear hl (by simp [enterQualify])) rfl rfl

/-- Entry to HOLDOFF with a clear latch. -/
theorem enterHoldoff_safe {now : Nat} {p : Profile} {cause : TripCause} {r : ChainRecord} (hc : Composed r)
    (hl : r.latch = false) : RecordSafe (enterHoldoff now p cause r) :=
  recordSafe_idle ⟨hc.least, hc.limiter⟩ (latchSafe_of_clear hl (by simp [enterHoldoff])) rfl rfl

/-- Entry to CLASSIFY with a clear latch. -/
theorem enterClassify_safe {p : Profile} {cause : TripCause} {x : PulseStamp} {snap : Snapshot} {r : ChainRecord}
    (hc : Composed r) (hl : r.latch = false) : RecordSafe (enterClassify p cause x snap r) :=
  recordSafe_idle ⟨hc.least, hc.limiter⟩ (latchSafe_of_clear hl (by simp [enterClassify])) rfl rfl

/-- Entry to DISABLED, whatever the latch. -/
theorem enterDisabled_safe {now : Nat} {p : Profile} {r : ChainRecord} (hc : Composed r) :
    RecordSafe (enterDisabled now p r) :=
  recordSafe_idle ⟨hc.least, hc.limiter⟩ ⟨fun h => by simp [enterDisabled] at h, fun _ => Or.inr rfl⟩ rfl rfl

/-- The lockout decision from a clear latch. -/
theorem decideLockout_safe {s : State} {c : ChainNo} {r : ChainRecord} (hc : Composed r) (hl : r.latch = false) :
    RecordSafe (decideLockout s c r) := by
  unfold decideLockout
  extract_lets r1
  split
  · exact recordSafe_idle ⟨hc.least, hc.limiter⟩ ⟨fun _ => rfl, fun _ => Or.inl rfl⟩ rfl rfl
  · exact enterQualify_safe ⟨hc.least, hc.limiter⟩ hl

/-- The release of a composed record with a clear latch (R11). -/
theorem releaseChain_safe {p : Profile} {r : ChainRecord} (hc : Composed r) (hl : r.latch = false) :
    RecordSafe (releaseChain p r) := raisedRecord_safe hc hl (Nat.min_le_right _ _)

/-- A chain in QUALIFY after an evaluation: released or kept there. -/
theorem testQualify_safe {s : State} {c : ChainNo} {r : ChainRecord} (hc : Composed r) (hl : r.latch = false)
    (ha : r.applied = 0) : RecordSafe (testQualify s c r) := by
  unfold testQualify
  split
  · exact releaseChain_safe hc hl
  · exact recordSafe_idle ⟨hc.least, hc.limiter⟩ (latchSafe_of_clear hl (by simp)) rfl ha

/-- A chain after an arc pulse. -/
theorem arcRecord_safe {now : Nat} {p : Profile} {x : ArcPulse} {r : ChainRecord} (h : RecordSafe r) :
    RecordSafe (arcRecord now p x r) := by
  unfold arcRecord
  split
  · next hm => exact enterClassify_safe h.composed (h.latch_clear_of_run (by rw [hm]; rfl))
  · next hm => exact enterClassify_safe h.composed (h.latch_clear_of_run (by rw [hm]; rfl))
  · next hm =>
    exact h.replaceMode (by simp [hm, runState]) (by simp [hm, modeState]) (by simp [hm, modeState]) rfl (by simp)
  · next hm =>
    exact h.replaceMode (by simp [hm, runState]) (by simp [hm, modeState]) (by simp [hm, modeState]) rfl (by simp)
  · exact h

/-- A chain after a surge. -/
theorem surgeRecord_safe {p : Profile} {x : PulseStamp} {r : ChainRecord} (h : RecordSafe r) :
    RecordSafe (surgeRecord p x r) := by
  unfold surgeRecord
  split
  · next hm => exact enterClassify_safe h.composed (h.latch_clear_of_run (by rw [hm]; rfl))
  · next hm => exact enterClassify_safe h.composed (h.latch_clear_of_run (by rw [hm]; rfl))
  · next hm =>
    exact h.replaceMode (by simp [hm, runState]) (by simp [hm, modeState]) (by simp [hm, modeState]) rfl (by simp)
  · exact h

/-- A step toward P goes at most to P. -/
theorem raiseApplied_le {step : Nat} {r : ChainRecord} (h : r.applied ≤ r.permitted) :
    raiseApplied step r ≤ r.permitted := by
  unfold raiseApplied
  omega

/-- A chain after a frame tick. -/
theorem tickRecord_safe {s : State} {c : ChainNo} {r : ChainRecord} (h : RecordSafe r) :
    RecordSafe (tickRecord s c r) := by
  unfold tickRecord
  extract_lets p
  split
  · next hm =>
    have hl := h.latch_clear_of_run (run := .ramp) (by rw [hm]; rfl)
    split
    · exact raisedRecord_safe h.composed hl (raiseApplied_le h.belowP)
    · exact h
  · next hm =>
    split
    · exact ⟨fun h => by simp [hm, runState] at h, raiseApplied_le h.belowP, h.least, h.limiter,
        fun h => by simp [hm] at h, h.lockedOut, h.latched⟩
    · exact h
  · next hm =>
    have hl : modeState r.mode ≠ .lockout := by simp [hm, modeState]
    have hd : modeState r.mode ≠ .disabled := by simp [hm, modeState]
    split
    · exact h
    · extract_lets d1
      split
      · exact decideLockout_safe ⟨h.least, h.limiter⟩ (h.latch_clear hl hd)
      · exact h.replaceMode (by simp [hm, runState]) hl hd rfl (by simp)
  · exact h

/-- A chain after CHAIN_ON, which a set latch in DISABLED refuses. -/
theorem switchOnRecord_safe {s : State} {c : ChainNo} {r : ChainRecord} (h : RecordSafe r)
    (hl : ¬ (modeState r.mode = .disabled ∧ r.latch = true)) : RecordSafe (switchOnRecord s c r) := by
  unfold switchOnRecord
  split
  · next hm =>
    split
    · exact recordSafe_idle ⟨h.least, h.limiter⟩ ⟨fun _ => rfl, fun _ => Or.inl rfl⟩ rfl rfl
    · exact enterQualify_safe h.composed (by simpa [hm, modeState] using hl)
  · exact h

/-- A chain after CLEAR_LOCKOUT. -/
theorem clearLockoutRecord_safe {s : State} {c : ChainNo} {r : ChainRecord} (h : RecordSafe r) :
    RecordSafe (clearLockoutRecord s c r) := by
  unfold clearLockoutRecord
  split
  · extract_lets r1
    split
    · exact enterQualify_safe ⟨h.least, h.limiter⟩ rfl
    · next hm =>
      exact ⟨h.noDrive, h.belowP, h.least, h.limiter, h.ramp, fun h' => absurd h' hm, fun h' => by simp [r1] at h'⟩
  · exact h

/-- The record of Table 1-3. -/
theorem startRecord_safe (p : Profile) (c : ChainNo) (l : List TripEntry) (latch : Bool) :
    RecordSafe (startRecord p c l latch) :=
  recordSafe_idle ⟨rfl, rfl⟩ ⟨fun h => by simp [startRecord, compose] at h, fun _ => Or.inr rfl⟩ rfl rfl

end Sys2Proof.Machine
end

section
/-! PROOFS. PartSafe by parts: the chains with the alarm reasons, and the lines; and what keeps each. -/

namespace Sys2Proof.Machine

/-- PartSafe but for the output lines. -/
structure ChainsSafe (s : State) : Prop where
  records  : ∀ c, RecordSafe (recordOf s c)
  lockouts : ∀ c, s.alarms.lockoutChains.get c = inLockout (recordOf s c)
  default  : s.alarms.defaultProfile = decide (s.store.source = .builtIn)

theorem partSafe_iff (s : State) : PartSafe s ↔ ChainsSafe s ∧ s.lines = linesOf s :=
  ⟨fun h => ⟨⟨h.records, h.lockouts, h.default⟩, h.lines⟩,
    fun ⟨h, hl⟩ => ⟨h.records, hl, h.lockouts, h.default⟩⟩

theorem PartSafe.chainsSafe {s : State} (h : PartSafe s) : ChainsSafe s := ((partSafe_iff s).mp h).1

/-- An event that is finished has driven the lines. -/
theorem ChainsSafe.finish {s : State} (h : ChainsSafe s) : PartSafe (finish s) := by
  refine (partSafe_iff _).mpr ⟨⟨fun c => ?_, fun c => ?_, ?_⟩, finish_lines s⟩
  · rw [finish_recordOf]
    exact h.records c
  · rw [finish_recordOf, finish_alarms]
    exact h.lockouts c
  · rw [finish_alarms, finish_store]
    exact h.default

/-- The chain records, CHAIN_LOCKOUT, DEFAULT_PROFILE and the source of the active profile are as they were. -/
structure SupervisionKept (s t : State) : Prop where
  records  : ∀ c, recordOf t c = recordOf s c
  lockouts : t.alarms.lockoutChains = s.alarms.lockoutChains
  default  : t.alarms.defaultProfile = s.alarms.defaultProfile
  source   : t.store.source = s.store.source

/-- The chain records, the alarm reasons, the phase, the lines and the source of the active profile are as they were. -/
structure OutputsKept (s t : State) : Prop where
  records : ∀ c, recordOf t c = recordOf s c
  alarms  : t.alarms = s.alarms
  phase   : t.phase = s.phase
  lines   : t.lines = s.lines
  source  : t.store.source = s.store.source

theorem SupervisionKept.trans {s t u : State} (h : SupervisionKept s t) (k : SupervisionKept t u) :
    SupervisionKept s u :=
  ⟨fun c => (k.records c).trans (h.records c), k.lockouts.trans h.lockouts, k.default.trans h.default,
    k.source.trans h.source⟩

theorem OutputsKept.refl (s : State) : OutputsKept s s := ⟨fun _ => rfl, rfl, rfl, rfl, rfl⟩

theorem OutputsKept.trans {s t u : State} (h : OutputsKept s t) (k : OutputsKept t u) : OutputsKept s u :=
  ⟨fun c => (k.records c).trans (h.records c), k.alarms.trans h.alarms, k.phase.trans h.phase,
    k.lines.trans h.lines, k.source.trans h.source⟩

theorem outputsKept_ite {p : Prop} [Decidable p] {s t : State} (h : OutputsKept s t) :
    OutputsKept s (if p then t else s) := by
  split
  · exact h
  · exact OutputsKept.refl s

theorem OutputsKept.supervision {s t : State} (h : OutputsKept s t) : SupervisionKept s t :=
  ⟨h.records, by rw [h.alarms], by rw [h.alarms], h.source⟩

theorem ChainsSafe.kept {s t : State} (h : ChainsSafe s) (k : SupervisionKept s t) : ChainsSafe t :=
  ⟨fun c => by rw [k.records]; exact h.records c, fun c => by rw [k.records, k.lockouts]; exact h.lockouts c,
    by rw [k.default, k.source]; exact h.default⟩

/-- The lines are given by the phase, the alarm reasons and of each chain its state, run-on and band. -/
theorem linesOf_eq {s t : State} (hp : t.phase = s.phase) (ha : t.alarms = s.alarms)
    (hm : ∀ c, (recordOf t c).mode = (recordOf s c).mode) (hb : ∀ c, (recordOf t c).band = (recordOf s c).band) :
    linesOf t = linesOf s := by
  have hi : (t.chains.map fun x => inhibitFor x.record) = s.chains.map fun x => inhibitFor x.record :=
    Quad.ext_get fun c => by
      rw [Quad.get_map, Quad.get_map]
      exact congrArg (fun m => (runState m).isNone) (hm c)
  have hc : (t.chains.map fun x => coolingFor x.record) = s.chains.map fun x => coolingFor x.record :=
    Quad.ext_get fun c => by
      rw [Quad.get_map, Quad.get_map]
      have hm' : (t.chains.get c).record.mode = (s.chains.get c).record.mode := hm c
      have hb' : (t.chains.get c).record.band = (s.chains.get c).record.band := hb c
      unfold coolingFor
      rw [hm', hb']
  unfold linesOf
  rw [hp, hi, hc, ha]

theorem PartSafe.kept {s t : State} (h : PartSafe s) (k : OutputsKept s t) : PartSafe t := by
  refine (partSafe_iff t).mpr ⟨h.chainsSafe.kept k.supervision, ?_⟩
  rw [k.lines, h.lines]
  exact (linesOf_eq k.phase k.alarms (fun c => by rw [k.records]) (fun c => by rw [k.records])).symm

/-- An operation that keeps every part safe. -/
def KeepsPartSafe (f : State → State) : Prop := ∀ s, PartSafe s → PartSafe (f s)

theorem keepsPartSafe_of_kept {f : State → State} (h : ∀ s, OutputsKept s (f s)) : KeepsPartSafe f :=
  fun s hs => hs.kept (h s)

theorem elapse_outputsKept (dt : Nat) (s : State) : OutputsKept s (elapse dt s) :=
  ⟨fun _ => rfl, rfl, rfl, rfl, rfl⟩

/-- An operation taken only while the part runs. -/
theorem KeepsPartSafe.whileRunning {f : State → State} (h : KeepsPartSafe f) : KeepsPartSafe (whileRunning f) := by
  intro s hs
  unfold Machine.whileRunning
  split
  · exact h s hs
  · exact hs

theorem PartSafe.later {s : State} (h : PartSafe s) (dt : Nat) : PartSafe (elapse dt s) :=
  h.kept (elapse_outputsKept dt s)

/-! ## The shared operations -/

theorem setInbox_outputsKept (c : ChainNo) (b : ChainInbox) (s : State) : OutputsKept s (setInbox c b s) :=
  ⟨fun d => setInbox_recordOf c d b s, rfl, rfl, rfl, rfl⟩

theorem deliverAll_outputsKept (f : ChainInbox → ChainInbox) (s : State) : OutputsKept s (deliverAll f s) :=
  ⟨fun c => deliverAll_recordOf f s c, rfl, rfl, rfl, rfl⟩

theorem deliverSite_outputsKept (x : SiteDelivery) (s : State) : OutputsKept s (deliverSite x s) := by
  unfold deliverSite
  split
  · exact OutputsKept.refl s
  · exact deliverAll_outputsKept _ s

theorem raiseSite_supervisionKept (s : State) : SupervisionKept s (raiseSite s) := by
  rw [raiseSite_frame]
  exact ⟨fun _ => rfl, rfl, rfl, rfl⟩

theorem raiseCapture_supervisionKept (s : State) : SupervisionKept s (raiseCapture s) := by
  rw [raiseCapture_frame]
  exact ⟨fun _ => rfl, rfl, rfl, rfl⟩

/-- Alarm reasons that agree on CHAIN_LOCKOUT and DEFAULT_PROFILE. -/
theorem setAlarms_supervisionKept {a : AlarmReasons} {s : State} (hl : a.lockoutChains = s.alarms.lockoutChains)
    (hd : a.defaultProfile = s.alarms.defaultProfile) : SupervisionKept s (setAlarms a s) := by
  rw [setAlarms_frame]
  exact ⟨fun _ => rfl, hl, hd, rfl⟩

theorem startWrite_supervisionKept (s : State) : SupervisionKept s (startWrite s) := by
  rw [startWrite_frame]
  exact ⟨fun _ => rfl, rfl, rfl, rfl⟩

/-- CHAIN_LOCKOUT after a chain's record changed. -/
theorem alarmsAfter_lockoutChains {c : ChainNo} {r : ChainRecord} {s : State}
    (h : s.alarms.lockoutChains.get c = inLockout (recordOf s c)) (d : ChainNo) :
    (alarmsAfter c r s).lockoutChains.get d = if d = c then inLockout r else s.alarms.lockoutChains.get d := by
  unfold alarmsAfter
  split
  · next he =>
    split
    · next hd => rw [hd, he, h]
    · rfl
  · exact Quad.get_set _ _ _ _

theorem alarmsAfter_defaultProfile (c : ChainNo) (r : ChainRecord) (s : State) :
    (alarmsAfter c r s).defaultProfile = s.alarms.defaultProfile := by
  unfold alarmsAfter
  split <;> rfl

/-- Committing a safe record. -/
theorem ChainsSafe.commitChain {s : State} (h : ChainsSafe s) (c : ChainNo) {r : ChainRecord} (hr : RecordSafe r) :
    ChainsSafe (commitChain c r s) := by
  have ha : (Machine.commitChain c r s).alarms = alarmsAfter c r s := by rw [commitChain_frame]
  have hs : (Machine.commitChain c r s).store = s.store := by rw [commitChain_frame]
  refine ⟨fun d => ?_, fun d => ?_, ?_⟩
  · rw [commitChain_recordOf]
    split
    · exact hr
    · exact h.records d
  · rw [commitChain_recordOf, ha, alarmsAfter_lockoutChains (h.lockouts c)]
    split
    · rfl
    · exact h.lockouts d
  · rw [ha, hs, alarmsAfter_defaultProfile]
    exact h.default

theorem handRecord_supervisionKept (k : Fin 5) (x : CaptureRecord) (s : State) :
    SupervisionKept s (handRecord k x s) := ⟨fun _ => rfl, rfl, rfl, rfl⟩

/-- A slow trip of a composed record with a clear latch. -/
theorem ChainsSafe.slowTrip {s : State} (h : ChainsSafe s) (c : ChainNo) (cause : TripCause) (tripTime : Word32)
    (run : RunState) (a : Nat) {r : ChainRecord} (hc : Composed r) (hl : r.latch = false) :
    ChainsSafe (slowTrip c cause tripTime run a r s) := by
  have hr : RecordSafe (enterHoldoff s.time (profileOf s c) cause
      { r with tripList := appendTrip cause tripTime r.tripList }) := enterHoldoff_safe ⟨hc.least, hc.limiter⟩ hl
  exact (h.kept (handRecord_supervisionKept _ _ s)).commitChain c hr

end Sys2Proof.Machine
end

section
/-! PROOFS. The events that leave every chain record, the alarm reasons and the lines as they were. -/

namespace Sys2Proof.Machine

/-! ## The Measurement Intake -/

theorem acceptFrame_outputsKept (g : GroupNo) (header : Word16) (fields : List Word16) (s : State) :
    OutputsKept s (acceptFrame g header fields s) := by
  cases g with
  | chain c => exact ⟨fun d => setInbox_recordOf c d _ _, rfl, rfl, rfl, rfl⟩
  | site => exact ⟨fun _ => rfl, rfl, rfl, rfl, rfl⟩

theorem endFrame_outputsKept (bits : List Bool) (g : GroupNo) (x : FrameWords) (s : State) :
    OutputsKept s (endFrame bits g x s) := by
  unfold endFrame
  extract_lets s1
  split
  · exact ⟨fun _ => rfl, rfl, rfl, rfl, rfl⟩
  · obtain ⟨hr, ha, hp, hl, hs⟩ := acceptFrame_outputsKept g x.header x.fields s1
    exact ⟨hr, ha, hp, hl, hs⟩

theorem sampleFrameEvent_outputsKept (bits : List Bool) (s : State) : OutputsKept s (sampleFrameEvent bits s) := by
  unfold sampleFrameEvent
  split
  · split
    · split
      · exact endFrame_outputsKept _ _ _ s
      · exact OutputsKept.refl s
    · exact OutputsKept.refl s
  · exact OutputsKept.refl s

theorem discardGroup_outputsKept (bits : List Bool) (s : State) : OutputsKept s (discardGroup bits s) := by
  unfold discardGroup
  exact outputsKept_ite ⟨fun _ => rfl, rfl, rfl, rfl, rfl⟩

theorem restartFrame_outputsKept (bits : List Bool) (s : State) : OutputsKept s (restartFrame bits s) := by
  unfold restartFrame
  exact outputsKept_ite ⟨fun _ => rfl, rfl, rfl, rfl, rfl⟩

theorem timeOutFrame_outputsKept (bits : List Bool) (quiet : Nat) (s : State) :
    OutputsKept s (timeOutFrame bits quiet s) := by
  unfold timeOutFrame
  split
  · exact outputsKept_ite ⟨fun _ => rfl, rfl, rfl, rfl, rfl⟩
  · exact OutputsKept.refl s

theorem matchSync_outputsKept (bits : List Bool) (s : State) : OutputsKept s (matchSync bits s) := by
  unfold matchSync
  split
  · split
    · exact ⟨fun _ => rfl, rfl, rfl, rfl, rfl⟩
    · exact ⟨fun _ => rfl, rfl, rfl, rfl, rfl⟩
    · exact OutputsKept.refl s
  · exact OutputsKept.refl s

theorem reachStale_outputsKept (g : GroupNo) (s : State) : OutputsKept s (reachStale g s) := by
  unfold reachStale
  split
  · exact outputsKept_ite ⟨fun d => setInbox_recordOf _ d _ _, rfl, rfl, rfl, rfl⟩
  · exact outputsKept_ite ⟨fun _ => rfl, rfl, rfl, rfl, rfl⟩

theorem reachLost_outputsKept (g : GroupNo) (s : State) : OutputsKept s (reachLost g s) := by
  unfold reachLost
  split
  · split
    · exact ⟨fun d => setInbox_recordOf _ d _ _, rfl, rfl, rfl, rfl⟩
    · exact OutputsKept.refl s
  · split
    · exact ⟨fun _ => rfl, rfl, rfl, rfl, rfl⟩
    · exact OutputsKept.refl s

theorem edgeFlow_outputsKept (c : ChainNo) (high : Bool) (s : State) : OutputsKept s (edgeFlow c high s) := by
  unfold edgeFlow whileRunning
  split
  · exact OutputsKept.refl s
  · split <;> exact ⟨fun _ => rfl, rfl, rfl, rfl, rfl⟩

theorem qualifyFlow_outputsKept (c : ChainNo) (s : State) : OutputsKept s (qualifyFlow c s) := by
  unfold qualifyFlow
  extract_lets x
  exact outputsKept_ite ⟨fun _ => rfl, rfl, rfl, rfl, rfl⟩

theorem rearmFlow_outputsKept (c : ChainNo) (s : State) : OutputsKept s (rearmFlow c s) := by
  unfold rearmFlow
  extract_lets f
  exact outputsKept_ite ⟨fun _ => rfl, rfl, rfl, rfl, rfl⟩

theorem endGate_outputsKept (s : State) : OutputsKept s (endGate s) := by
  unfold endGate
  split
  · refine ⟨fun c => ?_, rfl, rfl, rfl, rfl⟩
    simp [recordOf, chainOfState]
  · exact OutputsKept.refl s

/-! ## The Fast Mute Unit -/

theorem setFastLine_outputsKept (n : FastLineNo) (l : FastLine) (s : State) : OutputsKept s (setFastLine n l s) := by
  cases n <;> exact ⟨fun _ => rfl, rfl, rfl, rfl, rfl⟩

theorem edgeFast_outputsKept (n : FastLineNo) (high : Bool) (s : State) : OutputsKept s (edgeFast n high s) := by
  unfold edgeFast whileRunning
  split
  · exact OutputsKept.refl s
  · split
    · obtain ⟨hr, ha, hp, hl, hs⟩ := setFastLine_outputsKept n
        { fastLine s.fastMute n with filter := filterEdge s.time high (fastLine s.fastMute n).filter }
        { s with pins := setFastLevel n high s.pins }
      exact ⟨hr, ha, hp, hl, hs⟩
    · exact ⟨fun _ => rfl, rfl, rfl, rfl, rfl⟩

theorem forwardPulse_outputsKept (n : FastLineNo) (stamp : PulseStamp) (s : State) :
    OutputsKept s (forwardPulse n stamp s) := by
  cases n with
  | arc k =>
    refine ⟨fun c => ?_, rfl, rfl, rfl, rfl⟩
    simp only [forwardPulse, forwardArc, recordOf, Quad.get_ofFn]
    split <;> rfl
  | surge c => exact setInbox_outputsKept c _ s

theorem qualifyFast_outputsKept (n : FastLineNo) (s : State) : OutputsKept s (qualifyFast n s) := by
  unfold qualifyFast
  extract_lets l
  split
  · exact outputsKept_ite ((setFastLine_outputsKept n _ s).trans (forwardPulse_outputsKept n _ _))
  · exact OutputsKept.refl s

theorem rearmFast_outputsKept (n : FastLineNo) (s : State) : OutputsKept s (rearmFast n s) := by
  unfold rearmFast
  extract_lets l
  exact outputsKept_ite (setFastLine_outputsKept n _ s)

theorem fastMuteActivationEvent_outputsKept (s : State) : OutputsKept s (fastMuteActivationEvent s) := by
  unfold fastMuteActivationEvent
  split
  · exact OutputsKept.refl s
  · exact ⟨fun _ => rfl, rfl, rfl, rfl, rfl⟩

/-! ## The Frame Timing Reference -/

theorem setTracker_outputsKept (t : Tracker) (s : State) : OutputsKept s (setTracker t s) :=
  ⟨fun _ => rfl, rfl, rfl, rfl, rfl⟩

theorem putTracker_outputsKept (x : Tracker × Bool) (s : State) : OutputsKept s (putTracker x s) := by
  unfold putTracker
  extract_lets s1
  split
  · exact (setTracker_outputsKept x.1 s).trans (deliverAll_outputsKept _ _)
  · exact setTracker_outputsKept x.1 s

theorem edgeMarker_outputsKept (high : Bool) (s : State) : OutputsKept s (edgeMarker high s) := by
  unfold edgeMarker whileRunning
  split
  · exact OutputsKept.refl s
  · split <;> exact ⟨fun _ => rfl, rfl, rfl, rfl, rfl⟩

theorem rearmMarker_outputsKept (s : State) : OutputsKept s (rearmMarker s) := by
  unfold rearmMarker
  exact outputsKept_ite (setTracker_outputsKept _ s)

theorem markerEvent_outputsKept (s : State) : OutputsKept s (markerEvent s) := by
  unfold markerEvent
  split
  · exact outputsKept_ite (putTracker_outputsKept _ s)
  · exact OutputsKept.refl s

theorem fallbackEvent_outputsKept (s : State) : OutputsKept s (fallbackEvent s) := by
  unfold fallbackEvent
  split
  · exact outputsKept_ite (putTracker_outputsKept _ s)
  · exact OutputsKept.refl s

theorem dropPrevious_outputsKept (s : State) : OutputsKept s (dropPrevious s) := by
  unfold dropPrevious
  split
  · exact outputsKept_ite (setTracker_outputsKept _ s)
  · exact OutputsKept.refl s

theorem windowEvent_outputsKept (s : State) : OutputsKept s (windowEvent s) := by
  unfold windowEvent
  split
  · exact outputsKept_ite (putTracker_outputsKept _ s)
  · exact OutputsKept.refl s

theorem trackerActivationEvent_outputsKept (s : State) : OutputsKept s (trackerActivationEvent s) := by
  unfold trackerActivationEvent
  split
  · exact OutputsKept.refl s
  · extract_lets t
    split
    · exact setTracker_outputsKept _ s
    · exact putTracker_outputsKept _ s

/-! ## The level bus, the load timer and the Control Link's receiver -/

theorem transferEvent_outputsKept (s : State) : OutputsKept s (transferEvent s) := by
  unfold transferEvent
  split
  · exact outputsKept_ite ⟨fun _ => rfl, rfl, rfl, rfl, rfl⟩
  · exact OutputsKept.refl s

theorem loadTimerEvent_outputsKept (s : State) : OutputsKept s (loadTimerEvent s) := by
  unfold loadTimerEvent
  split
  · exact outputsKept_ite ⟨fun _ => rfl, rfl, rfl, rfl, rfl⟩
  · exact OutputsKept.refl s

theorem startFrame_outputsKept (skipped : List Byte) (s : State) : OutputsKept s (startFrame skipped s) := by
  unfold startFrame
  split
  · exact OutputsKept.refl s
  · exact ⟨fun _ => rfl, rfl, rfl, rfl, rfl⟩

theorem framingErrorEvent_outputsKept (character : List Bool) (s : State) :
    OutputsKept s (framingErrorEvent character s) := by
  unfold framingErrorEvent
  exact outputsKept_ite ⟨fun _ => rfl, rfl, rfl, rfl, rfl⟩

theorem discardFrame_outputsKept (frame : List Byte) (s : State) : OutputsKept s (discardFrame frame s) := by
  unfold discardFrame
  exact outputsKept_ite ⟨fun _ => rfl, rfl, rfl, rfl, rfl⟩

theorem gapEvent_outputsKept (frame : List Byte) (quiet : Nat) (s : State) :
    OutputsKept s (gapEvent frame quiet s) := by
  unfold gapEvent
  split
  · exact outputsKept_ite ⟨fun _ => rfl, rfl, rfl, rfl, rfl⟩
  · exact OutputsKept.refl s

theorem overlapSlot_outputsKept (kind tag : Byte) (s : State) : OutputsKept s (overlapSlot kind tag s) := by
  unfold overlapSlot
  split
  · exact OutputsKept.refl s
  · exact ⟨fun _ => rfl, rfl, rfl, rfl, rfl⟩

/-! ## The Site Monitor's filter and activation, and a chain's interlock closing -/

theorem setSite_outputsKept (r : SiteRecord) (s : State) : OutputsKept s (setSite r s) :=
  ⟨fun _ => rfl, rfl, rfl, rfl, rfl⟩

theorem edgeInterlock_outputsKept (high : Bool) (s : State) : OutputsKept s (edgeInterlock high s) := by
  unfold edgeInterlock whileRunning
  split
  · exact OutputsKept.refl s
  · split <;> exact ⟨fun _ => rfl, rfl, rfl, rfl, rfl⟩

theorem takeSiteActivation_outputsKept (p : Profile) (s : State) : OutputsKept s (takeSiteActivation p s) := by
  have h : ∀ r, OutputsKept s (setSite r { s with site := { s.site with profile := p } }) :=
    fun _ => ⟨fun _ => rfl, rfl, rfl, rfl, rfl⟩
  exact (h _).trans (deliverSite_outputsKept _ _)

theorem siteActivationEvent_outputsKept (s : State) : OutputsKept s (siteActivationEvent s) := by
  unfold siteActivationEvent
  split
  · exact OutputsKept.refl s
  · next p rest h =>
    have hs : OutputsKept s { s with site := { s.site with activations := rest } } :=
      ⟨fun _ => rfl, rfl, rfl, rfl, rfl⟩
    exact hs.trans (takeSiteActivation_outputsKept p _)

theorem closingEvent_outputsKept (c : ChainNo) (s : State) : OutputsKept s (closingEvent c s) := by
  unfold closingEvent
  split
  · exact setInbox_outputsKept c _ s
  · exact OutputsKept.refl s

end Sys2Proof.Machine
end

section
/-! PROOFS. Every event at a chain keeps the part safe. -/

namespace Sys2Proof.Machine

/-- A state in which an event took something from a chain's inbox. -/
theorem PartSafe.setInbox {s : State} (h : PartSafe s) (c : ChainNo) (b : ChainInbox) :
    ChainsSafe (setInbox c b s) := (h.kept (setInbox_outputsKept c b s)).chainsSafe

/-! ## What a chain takes -/

theorem takeFlowResult_safe {c : ChainNo} {x : FlowResult} {s : State} (h : ChainsSafe s) :
    ChainsSafe (takeFlowResult c x s) := by
  have hr := h.records c
  have hr' : RecordSafe { recordOf s c with flowRate := x.rate } :=
    ⟨hr.noDrive, hr.belowP, hr.least, hr.limiter, hr.ramp, hr.lockedOut, hr.latched⟩
  unfold takeFlowResult
  extract_lets old r
  split
  · next run hrun =>
    split
    · exact h.slowTrip c _ _ _ _ hr'.composed (hr.latch_clear_of_run hrun)
    · exact h.commitChain c hr'
  · exact h.commitChain c hr'

theorem takeEvaluation_safe {c : ChainNo} {x : ChainReadings} {returned : Bool} {s : State} (h : ChainsSafe s) :
    ChainsSafe (takeEvaluation c x returned s) := by
  have hr := h.records c
  have hc := evaluateRecord_composed (profileOf s c) x returned (recordOf s c)
  have hl : LatchSafe (evaluateRecord (profileOf s c) x returned (recordOf s c)) := ⟨hr.lockedOut, hr.latched⟩
  have hf := followComposition_safe hc hl hr.noDrive
  unfold takeEvaluation
  extract_lets p old r
  split
  · next hm =>
    split
    · exact h.slowTrip c _ _ _ _ hc (hr.latch_clear_of_run (run := .ramp) (by rw [hm]; rfl))
    · exact h.commitChain c hf
  · next hm =>
    split
    · exact h.slowTrip c _ _ _ _ hc (hr.latch_clear_of_run (run := .active) (by rw [hm]; rfl))
    · exact h.commitChain c hf
  · next set hm =>
    have hl := hr.latch_clear (by simp [old, hm, modeState]) (by simp [old, hm, modeState])
    exact h.commitChain c (testQualify_safe hc hl (hr.noDrive (by simp [old, hm, runState])))
  · next h1 h2 h3 =>
    have hm : runState old.mode = none := by
      cases hm : old.mode <;> simp_all [runState]
    exact h.commitChain c (recordSafe_idle hc hl hm (hr.noDrive hm))

theorem takeStale_safe {c : ChainNo} {s : State} (h : ChainsSafe s) : ChainsSafe (takeStale c s) := by
  have hr : RecordSafe (recompose { recordOf s c with freshness := .stale, blind := (profileOf s c).chainBlind }) :=
    (h.records c).recompose rfl rfl rfl
  exact h.commitChain c (hr.addFailure _)

theorem takeLost_safe {c : ChainNo} {due : Word32} {s : State} (h : ChainsSafe s) : ChainsSafe (takeLost c due s) := by
  have hr := h.records c
  unfold takeLost
  extract_lets old r
  split
  · next run hrun => exact h.slowTrip c _ _ _ _ (compose_composed r) (hr.latch_clear_of_run hrun)
  · have hr' : RecordSafe (recompose r) := hr.recompose rfl rfl rfl
    exact h.commitChain c (hr'.addFailure _)

theorem takeCeiling_safe {c : ChainNo} {x : Nat} {s : State} (h : ChainsSafe s) : ChainsSafe (takeCeiling c x s) := by
  have hr := h.records c
  exact h.commitChain c (hr.recompose rfl rfl rfl)

theorem takeSiteTrip_safe {c : ChainNo} {x : SiteTrip} {s : State} (h : ChainsSafe s) :
    ChainsSafe (takeSiteTrip c x s) := by
  have hr := h.records c
  unfold takeSiteTrip
  extract_lets old
  split
  · next run hrun => exact h.slowTrip c _ _ _ _ hr.composed (hr.latch_clear_of_run hrun)
  · exact h.commitChain c (hr.addFailure _)

theorem takeSiteLoss_safe {c : ChainNo} {s : State} (h : ChainsSafe s) : ChainsSafe (takeSiteLoss c s) :=
  h.commitChain c ((h.records c).addFailure _)

theorem takeOpening_safe {c : ChainNo} {s : State} (h : ChainsSafe s) : ChainsSafe (takeOpening c s) := by
  have hr := h.records c
  unfold takeOpening
  extract_lets old
  split
  · next run hrun =>
    exact h.commitChain c ((enterQualify_safe hr.composed (hr.latch_clear_of_run hrun)).addFailure _)
  · exact h.commitChain c (hr.addFailure _)

/-- A chain's profile replaced leaves every record. -/
theorem setProfile_recordOf (c d : ChainNo) (p : Profile) (s : State) :
    recordOf (setChain c { chainOfState s c with profile := p } s) d = recordOf s d := by
  by_cases h : d = c
  · subst h
    simp [recordOf, chainOfState]
  · simp [recordOf, Quad.get_set_other _ _ h]

theorem takeActivation_safe {c : ChainNo} {p : Profile} {s : State} (h : ChainsSafe s) :
    ChainsSafe (takeActivation c p s) := by
  have hr := h.records c
  have hk : SupervisionKept s (setChain c { chainOfState s c with profile := p } s) :=
    ⟨fun d => setProfile_recordOf c d p s, rfl, rfl, rfl⟩
  exact (h.kept hk).commitChain c (hr.recompose rfl rfl rfl)

theorem switchOff_safe {c : ChainNo} {s : State} (h : ChainsSafe s) : ChainsSafe (switchOff c s) := by
  have hr := h.records c
  unfold switchOff
  extract_lets r
  split
  · exact h
  · exact (h.kept (handRecord_supervisionKept _ _ s)).commitChain c (enterDisabled_safe ⟨hr.least, hr.limiter⟩)
  · exact h.commitChain c (enterDisabled_safe hr.composed)

/-! ## The events -/

theorem flowResultEvent_keeps (c : ChainNo) : KeepsPartSafe (flowResultEvent c) := by
  intro s hs
  unfold flowResultEvent
  split
  · exact hs
  · exact (takeFlowResult_safe (hs.setInbox c _)).finish

theorem evaluationEvent_keeps (c : ChainNo) : KeepsPartSafe (evaluationEvent c) := by
  intro s hs
  unfold evaluationEvent
  split
  · exact (takeEvaluation_safe (hs.setInbox c _)).finish
  · exact hs

theorem freshnessEvent_keeps (c : ChainNo) : KeepsPartSafe (freshnessEvent c) := by
  intro s hs
  unfold freshnessEvent
  split
  · exact (takeStale_safe (hs.setInbox c _)).finish
  · exact (takeLost_safe (hs.setInbox c _)).finish
  · exact hs

theorem ceilingEvent_keeps (c : ChainNo) : KeepsPartSafe (ceilingEvent c) := by
  intro s hs
  unfold ceilingEvent
  split
  · exact (takeCeiling_safe (hs.setInbox c _)).finish
  · exact hs

theorem siteTripTaken_keeps (c : ChainNo) : KeepsPartSafe (siteTripTaken c) := by
  intro s hs
  unfold siteTripTaken
  split
  · exact (takeSiteTrip_safe (hs.setInbox c _)).finish
  · exact hs

theorem siteLossTaken_keeps (c : ChainNo) : KeepsPartSafe (siteLossTaken c) := by
  intro s hs
  unfold siteLossTaken
  split
  · exact (takeSiteLoss_safe (hs.setInbox c _)).finish
  · exact hs

theorem openingEvent_keeps (c : ChainNo) : KeepsPartSafe (openingEvent c) := by
  intro s hs
  unfold openingEvent
  split
  · exact (takeOpening_safe (hs.setInbox c _)).finish
  · exact hs

theorem arcEvent_keeps (c : ChainNo) : KeepsPartSafe (arcEvent c) := by
  intro s hs
  unfold arcEvent
  split
  · exact hs
  · exact ((hs.setInbox c _).commitChain c (arcRecord_safe (hs.records c))).finish

theorem surgeEvent_keeps (c : ChainNo) : KeepsPartSafe (surgeEvent c) := by
  intro s hs
  unfold surgeEvent
  split
  · exact hs
  · exact ((hs.setInbox c _).commitChain c (surgeRecord_safe (hs.records c))).finish

theorem tickEvent_keeps (c : ChainNo) : KeepsPartSafe (tickEvent c) := by
  intro s hs
  unfold tickEvent
  split
  · exact hs
  · exact ((hs.setInbox c _).commitChain c (tickRecord_safe (hs.records c))).finish

theorem chainActivationEvent_keeps (c : ChainNo) : KeepsPartSafe (chainActivationEvent c) := by
  intro s hs
  unfold chainActivationEvent
  split
  · exact hs
  · exact (takeActivation_safe (hs.setInbox c _)).finish

theorem expireWindow_keeps (c : ChainNo) : KeepsPartSafe (expireWindow c) := by
  intro s hs
  have hr := hs.records c
  unfold expireWindow
  extract_lets r
  split
  · next cause snap ends hm =>
    have hl := hr.latch_clear (by simp [r, hm, modeState]) (by simp [r, hm, modeState])
    have hr' : RecordSafe (enterHoldoff s.time (profileOf s c) cause
        { r with tripList := fastTripList cause snap r }) :=
      enterHoldoff_safe ⟨hr.least, hr.limiter⟩ hl
    split
    · exact ((hs.chainsSafe.kept (handRecord_supervisionKept _ _ s)).commitChain c hr').finish
    · exact hs
  · exact hs

theorem endDwell_keeps (c : ChainNo) : KeepsPartSafe (endDwell c) := by
  intro s hs
  have hr := hs.records c
  unfold endDwell
  extract_lets r
  split
  · next cause d hm =>
    have hl := hr.latch_clear (by simp [r, hm, modeState]) (by simp [r, hm, modeState])
    split
    · exact (hs.chainsSafe.commitChain c (decideLockout_safe hr.composed hl)).finish
    · exact hs
  · exact hs

/-- A record of chain `c` replaced by one of the same state, CHAIN_LOCKOUT unchanged. -/
theorem ChainsSafe.setRecord {s : State} (h : ChainsSafe s) {c : ChainNo} {r : ChainRecord} (hr : RecordSafe r)
    (hm : inLockout r = inLockout (recordOf s c)) : ChainsSafe (setRecord c r s) := by
  refine ⟨fun d => ?_, fun d => ?_, h.default⟩ <;> rw [setRecord_recordOf] <;> split
  · exact hr
  · exact h.records d
  · next hd =>
    rw [hm, hd]
    exact h.lockouts c
  · exact h.lockouts d

theorem expireTrips_keeps (c : ChainNo) : KeepsPartSafe (expireTrips c) := by
  intro s hs
  have hr := hs.records c
  have hr' : RecordSafe
      { recordOf s c with tripList := ageList (profileOf s c) (siteClock s) (recordOf s c).tripList } :=
    ⟨hr.noDrive, hr.belowP, hr.least, hr.limiter, hr.ramp, hr.lockedOut, hr.latched⟩
  refine (partSafe_iff _).mpr ⟨hs.chainsSafe.setRecord hr' rfl, ?_⟩
  have hm : ∀ d, (recordOf (expireTrips c s) d).mode = (recordOf s d).mode
      ∧ (recordOf (expireTrips c s) d).band = (recordOf s d).band := by
    intro d
    unfold expireTrips
    rw [setRecord_recordOf]
    split
    · next hd => simp [hd]
    · exact ⟨rfl, rfl⟩
  have hl : linesOf (expireTrips c s) = linesOf s := linesOf_eq rfl rfl (fun d => (hm d).1) fun d => (hm d).2
  exact hs.lines.trans hl.symm

theorem expireRunOn_keeps (c : ChainNo) : KeepsPartSafe (expireRunOn c) := by
  intro s hs
  have hr := hs.records c
  unfold expireRunOn
  extract_lets r
  split
  · next ends hm =>
    split
    · have hr' : RecordSafe { r with mode := .disabled none } :=
        recordSafe_idle ⟨hr.least, hr.limiter⟩ ⟨fun h => by simp at h, fun _ => Or.inr rfl⟩ rfl
          (hr.noDrive (by simp [r, hm, runState]))
      exact (hs.chainsSafe.setRecord hr' (by simp [inLockout, r, hm, modeState])).finish
    · exact hs
  · exact hs

end Sys2Proof.Machine
end

section
/-! PROOFS. The events of the other blocks that are finished, the requests and the resets keep the part safe; and with
them every step. -/

namespace Sys2Proof.Machine

/-! ## Captures, writes and the Site Monitor -/

theorem joinEvent_keeps : KeepsPartSafe joinEvent := by
  intro s hs
  unfold joinEvent
  split
  · exact hs
  · next x rest _ =>
    have hk : SupervisionKept s { s with capture := joinQueue x.record { s.capture with handed := rest } } :=
      ⟨fun _ => rfl, rfl, rfl, rfl⟩
    exact (hs.chainsSafe.kept (hk.trans (raiseCapture_supervisionKept _))).finish

theorem endWrite_supervisionKept (s : State) : SupervisionKept s (endWrite s) := by
  have hk : SupervisionKept s { s with nv := { s.nv with inProgress := none } } := ⟨fun _ => rfl, rfl, rfl, rfl⟩
  exact hk.trans (startWrite_supervisionKept _)

/-- A record write's end: the array and the store faults change. -/
theorem recordWrite_supervisionKept (directory lockout : Bool) (x : NvArray) (s : State) :
    SupervisionKept s (endWrite (setAlarms
      { s.alarms with directoryFault := directory, lockoutRecordFault := lockout } { s with array := x })) := by
  have hk : SupervisionKept s { s with array := x } := ⟨fun _ => rfl, rfl, rfl, rfl⟩
  have ha : SupervisionKept s (setAlarms
      { s.alarms with directoryFault := directory, lockoutRecordFault := lockout } { s with array := x }) :=
    hk.trans (setAlarms_supervisionKept rfl rfl)
  exact ha.trans (endWrite_supervisionKept _)

theorem lockoutWriteEvent_keeps : KeepsPartSafe lockoutWriteEvent := by
  intro s hs
  unfold lockoutWriteEvent
  split
  · split
    · exact (hs.chainsSafe.kept (recordWrite_supervisionKept s.alarms.directoryFault false _ s)).finish
    · exact hs
  · exact hs

theorem directoryWriteEvent_keeps : KeepsPartSafe directoryWriteEvent := by
  intro s hs
  unfold directoryWriteEvent
  split
  · split
    · exact (hs.chainsSafe.kept (recordWrite_supervisionKept false s.alarms.lockoutRecordFault _ s)).finish
    · exact hs
  · exact hs

theorem replyLoadEnd_supervisionKept (w : SlotWrite) (s : State) : SupervisionKept s (replyLoadEnd w s) := by
  unfold replyLoadEnd
  split <;> exact ⟨fun _ => rfl, rfl, rfl, rfl⟩

theorem slotWriteEvent_keeps : KeepsPartSafe slotWriteEvent := by
  intro s hs
  unfold slotWriteEvent
  split
  · next w started _ =>
    have hk : SupervisionKept s
        { s with
          array := { s.array with slots := s.array.slots.set w.slot (.bytes w.image) }
          store := { s.store with slots := s.store.slots.set w.slot .valid, load := .closed } } :=
      ⟨fun _ => rfl, rfl, rfl, rfl⟩
    split
    · exact (hs.chainsSafe.kept
        ((hk.trans (replyLoadEnd_supervisionKept w _)).trans (endWrite_supervisionKept _))).finish
    · exact hs
  · exact hs

theorem setSiteLostReason_supervisionKept (holds : Bool) (s : State) : SupervisionKept s (setSiteLostReason holds s) :=
  setAlarms_supervisionKept rfl rfl

theorem setSiteIntake_supervisionKept (l : List (IntakeEvent SiteReadings)) (s : State) :
    SupervisionKept s (setSiteIntake l s) := ⟨fun _ => rfl, rfl, rfl, rfl⟩

/-- A site record set, and what the event delivers joined to the inboxes. -/
theorem deliverSite_setSite_kept (x : SiteDelivery) (r : SiteRecord) (s : State) :
    SupervisionKept s (deliverSite x (setSite r s)) :=
  ((setSite_outputsKept r s).trans (deliverSite_outputsKept x _)).supervision

theorem takeSiteEvaluation_kept (x : SiteReadings) (returned : Bool) (s : State) :
    SupervisionKept s (takeSiteEvaluation x returned s) := by
  unfold takeSiteEvaluation
  extract_lets old r s1 s2
  have h1 : SupervisionKept s s1 := by
    simp only [s1]
    split
    · exact (setSiteLostReason_supervisionKept false s).trans (raiseSite_supervisionKept _)
    · exact (OutputsKept.refl s).supervision
  have h2 : SupervisionKept s s2 := h1.trans (deliverSite_setSite_kept _ r s1)
  split
  · exact h2
  · exact h2.trans (raiseSite_supervisionKept s2)

theorem takeSiteStale_kept (s : State) : SupervisionKept s (takeSiteStale s) :=
  (deliverSite_setSite_kept _ _ s).trans (raiseSite_supervisionKept _)

theorem takeSiteLost_kept (s : State) : SupervisionKept s (takeSiteLost s) :=
  ((deliverSite_setSite_kept _ _ s).trans (setSiteLostReason_supervisionKept true _)).trans
    (raiseSite_supervisionKept _)

theorem siteEvaluationEvent_keeps : KeepsPartSafe siteEvaluationEvent := by
  intro s hs
  unfold siteEvaluationEvent
  split
  · exact (hs.chainsSafe.kept ((setSiteIntake_supervisionKept _ s).trans (takeSiteEvaluation_kept _ _ _))).finish
  · exact hs

theorem siteStaleEvent_keeps : KeepsPartSafe siteStaleEvent := by
  intro s hs
  unfold siteStaleEvent
  split
  · exact (hs.chainsSafe.kept ((setSiteIntake_supervisionKept _ s).trans (takeSiteStale_kept _))).finish
  · exact hs

theorem siteLostEvent_keeps : KeepsPartSafe siteLostEvent := by
  intro s hs
  unfold siteLostEvent
  split
  · exact (hs.chainsSafe.kept ((setSiteIntake_supervisionKept _ s).trans (takeSiteLost_kept _))).finish
  · exact hs

theorem setInterlock_supervisionKept (x : Interlock) (s : State) : SupervisionKept s (setInterlock x s) :=
  (setSite_outputsKept _ s).supervision

/-- A qualified interlock change is delivered to the chains and raises the site flag. -/
theorem deliverInterlock_kept (f : ChainInbox → ChainInbox) (s : State) :
    SupervisionKept s (raiseSite (deliverAll f s)) :=
  (deliverAll_outputsKept f s).supervision.trans (raiseSite_supervisionKept _)

theorem openInterlock_keeps : KeepsPartSafe openInterlock := by
  intro s hs
  unfold openInterlock
  split
  · exact (hs.chainsSafe.kept (((setInterlock_supervisionKept _ s).trans (handRecord_supervisionKept _ _ _)).trans
      (deliverInterlock_kept _ _))).finish
  · exact hs

theorem closeInterlock_keeps : KeepsPartSafe closeInterlock := by
  intro s hs
  unfold closeInterlock
  split
  · exact (hs.chainsSafe.kept ((setInterlock_supervisionKept _ s).trans (deliverInterlock_kept _ _))).finish
  · exact hs

theorem messageSent_supervisionKept (t : Transmission) (s : State) : SupervisionKept s (messageSent t s) := by
  unfold messageSent
  split <;> exact ⟨fun _ => rfl, rfl, rfl, rfl⟩

theorem transmitEvent_keeps : KeepsPartSafe transmitEvent := by
  intro s hs
  unfold transmitEvent
  split
  · split
    · exact (hs.chainsSafe.kept (messageSent_supervisionKept _ s)).finish
    · exact hs
  · exact hs

/-! ## Requests -/

/-- A request's owner keeps the chains and the alarm reasons safe. -/
def ServesSafely (serve : List Byte → State → State × Answer) : Prop :=
  ∀ body s, ChainsSafe s → ChainsSafe (serve body s).1

theorem produceReply_supervisionKept (kind tag : Byte) (a : Answer) (s : State) :
    SupervisionKept s (produceReply kind tag a s) := by
  unfold produceReply
  split <;> exact ⟨fun _ => rfl, rfl, rfl, rfl⟩

theorem serveRequest_safe {serve : List Byte → State → State × Answer} (hv : ServesSafely serve) (m : Message)
    (n : Nat) {s : State} (h : ChainsSafe s) : PartSafe (serveRequest m n serve s) := by
  unfold serveRequest
  split
  · exact ((hv m.body s h).kept (produceReply_supervisionKept _ _ _ _)).finish
  · exact (h.kept (produceReply_supervisionKept _ _ _ _)).finish

/-- A frame received is taken, or goes to the overlap slot. -/
theorem receiveFrame_safe {m : Message} {take : State → State} (ht : ∀ s, PartSafe s → PartSafe (take s)) :
    KeepsPartSafe (receiveFrame m take) := by
  intro s hs
  have h1 : OutputsKept s (setLinkReceiver .hunting s) := ⟨fun _ => rfl, rfl, rfl, rfl, rfl⟩
  unfold receiveFrame
  extract_lets s1
  split
  · exact hs.kept (h1.trans (overlapSlot_outputsKept _ _ s1))
  · exact ht _ (hs.kept ⟨fun _ => rfl, rfl, rfl, rfl, rfl⟩)

theorem takeRequest_keeps {serve : List Byte → State → State × Answer} (hv : ServesSafely serve) (kind : Byte)
    (n : Nat) (frame : List Byte) : KeepsPartSafe (takeRequest kind n serve frame) := by
  intro s hs
  unfold takeRequest
  split
  · split
    · exact receiveFrame_safe (fun u hu => serveRequest_safe hv _ n hu.chainsSafe) s hs
    · exact hs
  · exact hs

theorem takeUnknown_keeps (frame : List Byte) : KeepsPartSafe (takeUnknown frame) := by
  intro s hs
  unfold takeUnknown
  split
  · split
    · exact receiveFrame_safe
        (fun u hu => (hu.chainsSafe.kept (produceReply_supervisionKept _ _ _ u)).finish) s hs
    · exact hs
  · exact hs

theorem takeOverlap_keeps (frame : List Byte) : KeepsPartSafe (takeOverlap frame) := by
  intro s hs
  unfold takeOverlap
  split
  · split
    · exact receiveFrame_safe (fun _ hu => hu) s hs
    · exact hs
  · exact hs

/-- An owner that answers and changes nothing. -/
theorem servesSafely_reading {serve : List Byte → State → State × Answer} (h : ∀ body s, (serve body s).1 = s) :
    ServesSafely serve := fun body s hs => by
  rw [h]
  exact hs

/-- A request that names a chain is served at that chain, or refused. -/
theorem serveChain_safe {serve : ChainNo → List Byte → State → State × Answer}
    (h : ∀ c, ServesSafely (serve c)) :
    ServesSafely (serveChain serve) := by
  intro body s hs
  unfold serveChain
  split
  · exact h _ body s hs
  · exact hs

theorem serveSetLevel_safe (c : ChainNo) : ServesSafely (serveSetLevel c) := fun _ _ hs =>
  hs.commitChain c ((hs.records c).recompose rfl rfl rfl)

theorem serveChainOn_safe (c : ChainNo) : ServesSafely (serveChainOn c) := by
  intro body s hs
  unfold serveChainOn
  extract_lets r
  split
  · exact hs
  · next h => exact hs.commitChain c (switchOnRecord_safe (hs.records c) h)

theorem serveChainOff_safe (c : ChainNo) : ServesSafely (serveChainOff c) := fun _ _ hs => switchOff_safe hs

theorem serveClearLockout_safe (c : ChainNo) : ServesSafely (serveClearLockout c) := fun _ _ hs =>
  hs.commitChain c (clearLockoutRecord_safe (hs.records c))

theorem serveReleaseCapture_safe : ServesSafely serveReleaseCapture := by
  intro body s hs
  unfold serveReleaseCapture
  extract_lets n
  split
  · exact hs
  · split
    · exact hs.kept ⟨fun _ => rfl, rfl, rfl, rfl⟩
    · split <;> exact hs

theorem setLoad_supervisionKept (l : Load) (s : State) : SupervisionKept s (setLoad l s) :=
  ⟨fun _ => rfl, rfl, rfl, rfl⟩

theorem serveLoadBegin_safe : ServesSafely serveLoadBegin := by
  intro body s hs
  unfold serveLoadBegin
  split
  · exact hs
  · split
    · exact hs
    · exact hs.kept (setLoad_supervisionKept _ s)

theorem serveLoadSegment_safe : ServesSafely serveLoadSegment := by
  intro body s hs
  unfold serveLoadSegment
  extract_lets i
  split
  · exact hs
  · exact hs
  · split
    · exact hs.kept (setLoad_supervisionKept _ s)
    · exact hs

theorem commitImage_supervisionKept (k : Fin 3) (image : List Byte) (s : State) :
    SupervisionKept s (commitImage k image s) := by
  have hk : ∀ n : NvController, SupervisionKept s
      { s with nv := n, store := { s.store with load := .committing k, slots := s.store.slots.set k .writing } } :=
    fun _ => ⟨fun _ => rfl, rfl, rfl, rfl⟩
  exact (hk _).trans (startWrite_supervisionKept _)

theorem serveLoadEnd_safe : ServesSafely serveLoadEnd := by
  intro body s hs
  unfold serveLoadEnd
  split
  · exact hs
  · exact hs
  · split
    · exact hs
    · split
      · split
        · exact hs.kept (setLoad_supervisionKept _ s)
        · exact hs.kept (commitImage_supervisionKept _ _ s)
      · exact hs.kept (setLoad_supervisionKept _ s)

theorem serveLoadCancel_safe : ServesSafely serveLoadCancel := by
  intro body s hs
  unfold serveLoadCancel
  split
  · exact hs
  · exact hs.kept (setLoad_supervisionKept _ s)

/-- ACTIVATE sets the source and DEFAULT_PROFILE together. -/
theorem makeActive_safe {d : Designation} {p : Profile} {s : State} (h : ChainsSafe s) :
    ChainsSafe (makeActive d p s) := by
  have hr : ∀ c, recordOf (makeActive d p s) c = recordOf s c := by
    intro c
    unfold makeActive setDefaultReason
    rw [setAlarms_frame]
    simp [recordOf, announce]
  have ha : (makeActive d p s).alarms = { s.alarms with defaultProfile := decide (d = .builtIn) } := by
    unfold makeActive setDefaultReason
    rw [setAlarms_frame]
    rfl
  have hs : (makeActive d p s).store.source = d := by
    unfold makeActive setDefaultReason
    rw [setAlarms_frame]
    rfl
  refine ⟨fun c => ?_, fun c => ?_, ?_⟩
  · rw [hr]
    exact h.records c
  · rw [hr, ha]
    exact h.lockouts c
  · rw [ha, hs]

theorem persistDirectory_supervisionKept (persist : Bool) (d : Designation) (s : State) :
    SupervisionKept s (persistDirectory persist d s) := by
  unfold persistDirectory
  split
  · have hk : SupervisionKept s
        { s with nv := { s.nv with directoryPending := true }, store := { s.store with directory := d } } :=
      ⟨fun _ => rfl, rfl, rfl, rfl⟩
    exact hk.trans (startWrite_supervisionKept _)
  · exact (OutputsKept.refl s).supervision

theorem acceptActivate_safe {d : Designation} {p : Profile} {persist : Bool} {s : State} (h : ChainsSafe s) :
    ChainsSafe (acceptActivate d p persist s).1 :=
  (makeActive_safe h).kept (persistDirectory_supervisionKept _ _ _)

theorem serveActivate_safe : ServesSafely serveActivate := by
  intro body s hs
  unfold serveActivate
  extract_lets persist
  split
  · exact hs
  · exact acceptActivate_safe hs
  · split
    · exact hs
    · exact acceptActivate_safe hs
    · exact hs

theorem serveSetNotices_safe : ServesSafely serveSetNotices := fun _ _ hs =>
  hs.kept ⟨fun _ => rfl, rfl, rfl, rfl⟩

/-! ## Resets -/

/-- A reset leads to a phase in which every line is held asserted. -/
theorem enterReset_safe {phase : Phase} (hp : heldAsserted phase = true) (s : State) :
    PartSafe (enterReset phase s) := by
  refine ⟨fun c => ?_, ?_, fun c => ?_, rfl⟩
  · simp only [recordOf, enterReset, Quad.get_ofFn]
    exact startRecord_safe _ _ _ _
  · unfold linesOf
    exact (if_pos hp).symm
  · simp [recordOf, enterReset, startAlarms, startChain, startRecord, compose, inLockout, modeState]

theorem phaseAfterReset_held (rstN : Bool) (now : Nat) : heldAsserted (phaseAfterReset rstN now) = true := by
  cases rstN <;> rfl

theorem fallRstN_keeps : KeepsPartSafe fallRstN := by
  intro s hs
  unfold fallRstN
  dsimp only
  split
  · exact hs.kept ⟨fun _ => rfl, rfl, rfl, rfl, rfl⟩
  · exact enterReset_safe rfl _

theorem resetByRequest_keeps : KeepsPartSafe resetByRequest := by
  intro s hs
  unfold resetByRequest
  split
  · exact enterReset_safe (phaseAfterReset_held _ _) s
  · exact hs

theorem riseRstN_keeps : KeepsPartSafe riseRstN := by
  intro s hs
  unfold riseRstN
  dsimp only
  split
  · exact enterReset_safe rfl _
  · exact hs.kept ⟨fun _ => rfl, rfl, rfl, rfl, rfl⟩

/-- The record with which a chain leaves start-up's steps 1 to 5. -/
theorem startBlocks_recordOf (s : State) (c : ChainNo) :
    recordOf (startBlocks s) c
      = startRecord (designatedProfile s.array (chosenDesignation s.array)) c
          (keptTrips (designatedProfile s.array (chosenDesignation s.array)) (siteClock s) (recordOf s c))
          ((foundLatches s.array).get c) := by
  simp [startBlocks, recordOf, startChain]

theorem startRecord_mode (p : Profile) (c : ChainNo) (l : List TripEntry) (latch : Bool) :
    (startRecord p c l latch).mode = .disabled none := rfl

theorem startRecord_latch (p : Profile) (c : ChainNo) (l : List TripEntry) (latch : Bool) :
    (startRecord p c l latch).latch = latch := rfl

/-- Where R25 places a chain that stands in DISABLED. -/
theorem placeChain_safe {s : State} {c : ChainNo} (h : RecordSafe (recordOf s c))
    (hm : runState (recordOf s c).mode = none) : RecordSafe (placeChain s c) := by
  have ha := h.noDrive hm
  unfold placeChain
  extract_lets r
  split
  · next hl => exact recordSafe_idle ⟨h.least, h.limiter⟩ ⟨fun _ => hl, fun _ => Or.inl rfl⟩ rfl ha
  · next hl =>
    split
    · exact h
    · split
      · split
        · exact recordSafe_idle ⟨h.least, h.limiter⟩ ⟨fun _ => rfl, fun _ => Or.inl rfl⟩ rfl ha
        · exact recordSafe_idle ⟨h.least, h.limiter⟩ (latchSafe_of_clear (by simpa using hl) (by simp)) rfl ha
      · exact h

/-- The four chains placed, before any write is requested. -/
def placed (s : State) : State :=
  { s with
    chains := Quad.ofFn fun c => { s.chains.get c with record := placeChain s c }
    alarms := { s.alarms with lockoutChains := Quad.ofFn fun c => decide ((placeChain s c).mode = .lockout) } }

theorem placeChains_eq (s : State) :
    placeChains s = if latchesOf (placed s) = latchesOf s then placed s else requestLockoutWrite (placed s) := rfl

@[simp] theorem placed_recordOf (s : State) (c : ChainNo) : recordOf (placed s) c = placeChain s c := by
  simp [recordOf, placed]

theorem inLockout_iff (r : ChainRecord) : inLockout r = decide (r.mode = .lockout) := by
  unfold inLockout
  cases r.mode <;> simp [modeState]

/-- The chains and alarm reasons of a part whose chains start-up has placed. -/
theorem placeChains_safe {s : State} (h : ChainsSafe s) (hm : ∀ c, runState (recordOf s c).mode = none) :
    ChainsSafe (placeChains s) := by
  have h2 : ChainsSafe (placed s) := by
    refine ⟨fun c => ?_, fun c => ?_, h.default⟩ <;> rw [placed_recordOf]
    · exact placeChain_safe (h.records c) (hm c)
    · rw [inLockout_iff]
      exact Quad.get_ofFn _ c
  rw [placeChains_eq]
  split
  · exact h2
  · have hk : SupervisionKept (placed s) { placed s with nv := { s.nv with lockoutPending := true } } :=
      ⟨fun _ => rfl, rfl, rfl, rfl⟩
    exact h2.kept (hk.trans (startWrite_supervisionKept _))

theorem startBlocks_safe (s : State) : ChainsSafe (startBlocks s) := by
  refine ⟨fun c => ?_, fun c => ?_, rfl⟩ <;> rw [startBlocks_recordOf]
  · exact startRecord_safe _ _ _ _
  · simp [startBlocks, startAlarms, inLockout, startRecord_mode, modeState]

theorem endStartUp_keeps : KeepsPartSafe endStartUp := by
  intro s hs
  unfold endStartUp
  split
  · split
    · refine (placeChains_safe (startBlocks_safe s) fun c => ?_).finish
      rw [startBlocks_recordOf, startRecord_mode]
      rfl
    · exact hs
  · exact hs

end Sys2Proof.Machine
end

section
/-! PROOFS. Every command keeps the part safe, and what that says of the output lines. -/

namespace Sys2Proof.Machine

/-- A command taken only while the part runs. -/
theorem PartSafe.runs {s : State} (h : PartSafe s) (dt : Nat) {f : State → State} (hf : KeepsPartSafe f) :
    PartSafe (whileRunning f (elapse dt s)) := hf.whileRunning _ (h.later dt)

/-- A request. -/
theorem PartSafe.takes {s : State} (h : PartSafe s) (dt : Nat) {serve : List Byte → State → State × Answer}
    (hv : ServesSafely serve) (kind : Byte) (n : Nat) (frame : List Byte) :
    PartSafe (whileRunning (takeRequest kind n serve frame) (elapse dt s)) :=
  h.runs dt (takeRequest_keeps hv kind n frame)

/-- Every command has an effect, and it keeps the part safe. -/
theorem exec_keeps {s : State} (h : PartSafe s) (i : Instr) : ∃ t, exec i s = .next t ∧ PartSafe t := by
  cases i with
  | powerOnReset dt bsel1 bsel0 => exact ⟨_, rfl, enterReset_safe (phaseAfterReset_held _ _) _⟩
  | warmReset dt cause =>
    cases cause with
    | rstLow => exact ⟨_, rfl, fallRstN_keeps _ (h.later dt)⟩
    | requested => exact ⟨_, rfl, resetByRequest_keeps _ (h.later dt)⟩
  | startUpEnd dt => exact ⟨_, rfl, endStartUp_keeps _ (h.later dt)⟩
  | sampleFrame dt header fields check =>
    exact ⟨_, rfl, h.runs dt (keepsPartSafe_of_kept (sampleFrameEvent_outputsKept _))⟩
  | groupDiscard dt header => exact ⟨_, rfl, h.runs dt (keepsPartSafe_of_kept (discardGroup_outputsKept _))⟩
  | shortFrameSync x => exact ⟨_, rfl, h.runs x.dt (keepsPartSafe_of_kept (restartFrame_outputsKept _))⟩
  | shortFrameTimeout x => exact ⟨_, rfl, h.runs x.dt (keepsPartSafe_of_kept (timeOutFrame_outputsKept _ _))⟩
  | staleDeadline dt g => exact ⟨_, rfl, h.runs dt (keepsPartSafe_of_kept (reachStale_outputsKept g))⟩
  | lostDeadline dt g => exact ⟨_, rfl, h.runs dt (keepsPartSafe_of_kept (reachLost_outputsKept g))⟩
  | flowLineEdge dt c high => exact ⟨_, rfl, (h.later dt).kept (edgeFlow_outputsKept c high _)⟩
  | flowPulseQualify dt c => exact ⟨_, rfl, h.runs dt (keepsPartSafe_of_kept (qualifyFlow_outputsKept c))⟩
  | flowFilterRearm dt c => exact ⟨_, rfl, h.runs dt (keepsPartSafe_of_kept (rearmFlow_outputsKept c))⟩
  | gateEnd dt => exact ⟨_, rfl, h.runs dt (keepsPartSafe_of_kept endGate_outputsKept)⟩
  | flowGateResult dt c => exact ⟨_, rfl, h.runs dt (flowResultEvent_keeps c)⟩
  | chainEvaluation dt c => exact ⟨_, rfl, h.runs dt (evaluationEvent_keeps c)⟩
  | chainFreshnessChange dt c => exact ⟨_, rfl, h.runs dt (freshnessEvent_keeps c)⟩
  | siteEvaluation dt => exact ⟨_, rfl, h.runs dt siteEvaluationEvent_keeps⟩
  | siteStale dt => exact ⟨_, rfl, h.runs dt siteStaleEvent_keeps⟩
  | siteLost dt => exact ⟨_, rfl, h.runs dt siteLostEvent_keeps⟩
  | siteCeilingChange dt c => exact ⟨_, rfl, h.runs dt (ceilingEvent_keeps c)⟩
  | siteTripEvent dt c => exact ⟨_, rfl, h.runs dt (siteTripTaken_keeps c)⟩
  | siteFreshnessLoss dt c => exact ⟨_, rfl, h.runs dt (siteLossTaken_keeps c)⟩
  | interlockLineEdge dt high => exact ⟨_, rfl, (h.later dt).kept (edgeInterlock_outputsKept high _)⟩
  | interlockOpening dt => exact ⟨_, rfl, h.runs dt openInterlock_keeps⟩
  | interlockClosing dt => exact ⟨_, rfl, h.runs dt closeInterlock_keeps⟩
  | chainInterlockOpening dt c => exact ⟨_, rfl, h.runs dt (openingEvent_keeps c)⟩
  | chainInterlockClosing dt c => exact ⟨_, rfl, h.runs dt (keepsPartSafe_of_kept (closingEvent_outputsKept c))⟩
  | fastLineEdge dt line high => exact ⟨_, rfl, (h.later dt).kept (edgeFast_outputsKept line high _)⟩
  | fastLineQualify dt line => exact ⟨_, rfl, h.runs dt (keepsPartSafe_of_kept (qualifyFast_outputsKept line))⟩
  | fastFilterRearm dt line => exact ⟨_, rfl, h.runs dt (keepsPartSafe_of_kept (rearmFast_outputsKept line))⟩
  | qualifiedArcPulse dt c => exact ⟨_, rfl, h.runs dt (arcEvent_keeps c)⟩
  | qualifiedSurge dt c => exact ⟨_, rfl, h.runs dt (surgeEvent_keeps c)⟩
  | windowExpiry dt c => exact ⟨_, rfl, h.runs dt (expireWindow_keeps c)⟩
  | dwellEnd dt c => exact ⟨_, rfl, h.runs dt (endDwell_keeps c)⟩
  | tripListEntryExpiry dt c => exact ⟨_, rfl, h.runs dt (expireTrips_keeps c)⟩
  | runOnExpiry dt c => exact ⟨_, rfl, h.runs dt (expireRunOn_keeps c)⟩
  | chainFrameTick dt c => exact ⟨_, rfl, h.runs dt (tickEvent_keeps c)⟩
  | captureRecordJoin dt => exact ⟨_, rfl, h.runs dt joinEvent_keeps⟩
  | markerLineEdge dt high => exact ⟨_, rfl, (h.later dt).kept (edgeMarker_outputsKept high _)⟩
  | markerFilterRearm dt => exact ⟨_, rfl, h.runs dt (keepsPartSafe_of_kept rearmMarker_outputsKept)⟩
  | marker dt => exact ⟨_, rfl, h.runs dt (keepsPartSafe_of_kept markerEvent_outputsKept)⟩
  | fallbackTick dt => exact ⟨_, rfl, h.runs dt (keepsPartSafe_of_kept fallbackEvent_outputsKept)⟩
  | previousMarkerDrop dt => exact ⟨_, rfl, h.runs dt (keepsPartSafe_of_kept dropPrevious_outputsKept)⟩
  | windowClose dt => exact ⟨_, rfl, h.runs dt (keepsPartSafe_of_kept windowEvent_outputsKept)⟩
  | levelTransferComplete dt => exact ⟨_, rfl, h.runs dt (keepsPartSafe_of_kept transferEvent_outputsKept)⟩
  | chainProfileActivation dt c => exact ⟨_, rfl, h.runs dt (chainActivationEvent_keeps c)⟩
  | siteProfileActivation dt => exact ⟨_, rfl, h.runs dt (keepsPartSafe_of_kept siteActivationEvent_outputsKept)⟩
  | trackerProfileActivation dt =>
    exact ⟨_, rfl, h.runs dt (keepsPartSafe_of_kept trackerActivationEvent_outputsKept)⟩
  | fastMuteProfileActivation dt =>
    exact ⟨_, rfl, h.runs dt (keepsPartSafe_of_kept fastMuteActivationEvent_outputsKept)⟩
  | loadTimeout dt => exact ⟨_, rfl, h.runs dt (keepsPartSafe_of_kept loadTimerEvent_outputsKept)⟩
  | lockoutRecordWriteComplete dt => exact ⟨_, rfl, h.runs dt lockoutWriteEvent_keeps⟩
  | directoryWriteComplete dt => exact ⟨_, rfl, h.runs dt directoryWriteEvent_keeps⟩
  | slotWriteComplete dt => exact ⟨_, rfl, h.runs dt slotWriteEvent_keeps⟩
  | framingError x => exact ⟨_, rfl, h.runs x.dt (keepsPartSafe_of_kept (framingErrorEvent_outputsKept _))⟩
  | controlFrameDiscard x => exact ⟨_, rfl, h.runs x.dt (keepsPartSafe_of_kept (discardFrame_outputsKept _))⟩
  | controlFrameGapTimeout x => exact ⟨_, rfl, h.runs x.dt (keepsPartSafe_of_kept (gapEvent_outputsKept _ _))⟩
  | unknownKind dt head body crc => exact ⟨_, rfl, h.runs dt (takeUnknown_keeps _)⟩
  | overlapFrame dt head body crc => exact ⟨_, rfl, h.runs dt (takeOverlap_keeps _)⟩
  | identify dt inner crc => exact ⟨_, rfl, h.takes dt (servesSafely_reading fun _ _ => rfl) _ _ _⟩
  | readChain dt inner crc =>
    exact ⟨_, rfl, h.takes dt (serveChain_safe fun _ => servesSafely_reading fun _ _ => rfl) _ _ _⟩
  | readSite dt inner crc => exact ⟨_, rfl, h.takes dt (servesSafely_reading fun _ _ => rfl) _ _ _⟩
  | readTiming dt inner crc => exact ⟨_, rfl, h.takes dt (servesSafely_reading fun _ _ => rfl) _ _ _⟩
  | readTrips dt inner crc =>
    exact ⟨_, rfl, h.takes dt (serveChain_safe fun _ => servesSafely_reading fun _ _ => rfl) _ _ _⟩
  | readCapture dt inner crc => exact ⟨_, rfl, h.takes dt (servesSafely_reading fun _ _ => rfl) _ _ _⟩
  | readStore dt inner crc => exact ⟨_, rfl, h.takes dt (servesSafely_reading fun _ _ => rfl) _ _ _⟩
  | setLevel dt inner crc => exact ⟨_, rfl, h.takes dt (serveChain_safe serveSetLevel_safe) _ _ _⟩
  | chainOn dt inner crc => exact ⟨_, rfl, h.takes dt (serveChain_safe serveChainOn_safe) _ _ _⟩
  | chainOff dt inner crc => exact ⟨_, rfl, h.takes dt (serveChain_safe serveChainOff_safe) _ _ _⟩
  | clearLockout dt inner crc => exact ⟨_, rfl, h.takes dt (serveChain_safe serveClearLockout_safe) _ _ _⟩
  | releaseCapture dt inner crc => exact ⟨_, rfl, h.takes dt serveReleaseCapture_safe _ _ _⟩
  | loadBegin dt inner crc => exact ⟨_, rfl, h.takes dt serveLoadBegin_safe _ _ _⟩
  | loadSegment dt inner crc => exact ⟨_, rfl, h.takes dt serveLoadSegment_safe _ _ _⟩
  | loadEnd dt inner crc => exact ⟨_, rfl, h.takes dt serveLoadEnd_safe _ _ _⟩
  | loadCancel dt inner crc => exact ⟨_, rfl, h.takes dt serveLoadCancel_safe _ _ _⟩
  | activate dt inner crc => exact ⟨_, rfl, h.takes dt serveActivate_safe _ _ _⟩
  | setNotices dt inner crc => exact ⟨_, rfl, h.takes dt serveSetNotices_safe _ _ _⟩
  | reset dt inner crc => exact ⟨_, rfl, h.takes dt (servesSafely_reading fun _ _ => rfl) _ _ _⟩
  | transmitComplete dt => exact ⟨_, rfl, h.runs dt transmitEvent_keeps⟩
  | syncWordMatch x => exact ⟨_, rfl, h.runs x.dt (keepsPartSafe_of_kept (matchSync_outputsKept _))⟩
  | controlStartByte x => exact ⟨_, rfl, h.runs x.dt (keepsPartSafe_of_kept (startFrame_outputsKept _))⟩
  | supplyBelowThreshold dt => exact ⟨_, rfl, enterReset_safe rfl _⟩
  | rstNRise dt => exact ⟨_, rfl, riseRstN_keeps _ (h.later dt)⟩

theorem step_keeps {s t : State} (h : PartSafe s) (ht : step s = .next t) : PartSafe t := by
  unfold step at ht
  split at ht
  · cases ht
    exact h
  · next c rest _ =>
    have hp : PartSafe (s.withPending rest) := h.kept ⟨fun _ => rfl, rfl, rfl, rfl, rfl⟩
    obtain ⟨u, hu, hs⟩ := exec_keeps hp c
    cases hu.symm.trans ht
    exact hs

/-- The lines are held asserted in every phase but two. -/
theorem heldAsserted_false (p : Phase) : heldAsserted p = false ↔ p = .running ∨ p = .resetDue := by
  cases p <;> simp [heldAsserted]

/-- A safe part's inhibit line is released exactly while the part runs or is due to reset and the chain is in RAMP or
ACTIVE. -/
theorem PartSafe.inhibit_released_iff {s : State} (h : PartSafe s) (c : ChainNo) :
    s.lines.inhibit.get c = false ↔
      (s.phase = .running ∨ s.phase = .resetDue) ∧ (runState (recordOf s c).mode).isSome = true := by
  rw [h.lines, ← heldAsserted_false]
  unfold linesOf
  split
  · next hp => simp [assertedLines, hp]
  · next hp => simp [inhibitFor, recordOf, hp]

/-- Where a safe part's inhibit line is released, its cooling-demand line is asserted. -/
theorem PartSafe.cooling_asserted {s : State} (h : PartSafe s) {c : ChainNo} (hi : s.lines.inhibit.get c = false) :
    s.lines.cooling.get c = true := by
  obtain ⟨hp, hr⟩ := (h.inhibit_released_iff c).mp hi
  rw [← heldAsserted_false] at hp
  have hm : coolingFor (recordOf s c) = true := by
    unfold coolingFor
    split
    · next hm => simp [hm, runState] at hr
    · rfl
  rw [h.lines]
  unfold linesOf
  rw [if_neg (by simp [hp]), Quad.get_map]
  exact hm

/-- Where a running safe part's inhibit line is asserted, A is 0. -/
theorem PartSafe.applied_zero {s : State} (h : PartSafe s) {c : ChainNo} (hp : s.phase = .running)
    (hi : s.lines.inhibit.get c = true) : (recordOf s c).applied = 0 := by
  refine (h.records c).noDrive (Option.not_isSome_iff_eq_none.mp fun hr => ?_)
  rw [(h.inhibit_released_iff c).mpr ⟨Or.inl hp, hr⟩] at hi
  cases hi

/-- Settles O56: each command keeps the part safe, and a safe part's lines follow its chains. -/
theorem stepKeepsPartSafe : Obligations.StepKeepsPartSafe := by
  intro s t hs ht
  have h := step_keeps hs ht
  exact ⟨h, fun c => ⟨h.inhibit_released_iff c, h.cooling_asserted, h.applied_zero⟩⟩

end Sys2Proof.Machine
end

section
/-! PROOFS. The events a chain takes from the Intake: evaluations and freshness changes. -/

namespace Sys2Proof.Machine

/-! ## Shared -/

/-- A running part takes the command. -/
theorem whileRunning_running {f : State → State} {s : State} (hp : s.phase = .running) (dt : Nat) :
    whileRunning f (elapse dt s) = f (elapse dt s) := if_pos hp

theorem runState_none_of_qualify {m : ChainMode} {set : List Check} (h : m = .qualify set) : runState m = none := by
  rw [h]
  rfl

/-- An event taken from chain `c`'s inbox that adds a name to the set of a chain in QUALIFY, and leaves the record `r`
of any other as it is. -/
theorem finishAddFailure_event {dt : Nat} {c : ChainNo} {b : ChainInbox} {k : Check} {r : ChainRecord} {s s1 t : State}
    (hp : s.phase = .running) (h : s1 = { s with
      time := s.time + dt, chains := s.chains.set c { s.chains.get c with inbox := b } })
    (ht : t = finish (commitChain c (addFailure k r) s1)) :
    ChainNotices c s t
      ∧ (∀ set, r.mode = .qualify set → ∃ set', SetGains k set set' ∧
          ChainFrame dt c { s.chains.get c with record := { r with mode := .qualify set' }, inbox := b }
            s.capture.handed s t)
      ∧ ((∀ set, r.mode ≠ .qualify set) →
          ChainFrame dt c { s.chains.get c with record := r, inbox := b } s.capture.handed s t) := by
  obtain ⟨hf, hn⟩ := finishCommit_event (r := addFailure k r) hp h
  rw [← ht] at hf hn
  refine ⟨hn, fun set hq => ⟨addCheck k set, addCheck_gains k set, ?_⟩, fun hq => ?_⟩
  · rw [addFailure_qualify hq] at hf
    exact hf
  · rw [addFailure_other hq] at hf
    exact hf

/-! ## Evaluations -/

section Evaluation

variable {dt : Nat} {c : ChainNo} {x : ChainReadings} {returned : Bool} {rest : List (IntakeEvent ChainReadings)}
  {b : ChainInbox} {s : State}

theorem exec_chainEvaluation (hp : s.phase = .running) (h : (inboxOf s c).intake = .evaluation x returned :: rest) :
    exec (.chainEvaluation dt c) s
      = .next (finish (takeEvaluation c x returned (setInbox c { inboxOf s c with intake := rest } (elapse dt s)))) := by
  show Host.Outcome.next (whileRunning _ _) = _
  rw [whileRunning_running hp]
  simp only [evaluationEvent, elapse_inboxOf, h]

/-- Outside QUALIFY, RAMP and ACTIVE an evaluation is its steps 1 to 6 (R63). -/
theorem takeEvaluation_idle (hq : ∀ set, (recordOf s c).mode ≠ .qualify set)
    (hm : runState (recordOf s c).mode = none) :
    takeEvaluation c x returned (setInbox c b (elapse dt s))
      = commitChain c (evaluateRecord (profileOf s c) x returned (recordOf s c)) (setInbox c b (elapse dt s)) := by
  simp only [takeEvaluation, setInbox_recordOf, elapse_recordOf, setInbox_profileOf, elapse_profileOf]
  split
  · next h => simp [h, runState] at hm
  · next h => simp [h, runState] at hm
  · next h => exact absurd h (hq _)
  · rfl

/-- In QUALIFY the checks are tested on what steps 1 to 6 leave (R11). -/
theorem takeEvaluation_qualify {set : List Check} (hm : (recordOf s c).mode = .qualify set) :
    takeEvaluation c x returned (setInbox c b (elapse dt s))
      = commitChain c (testQualify s c (evaluateRecord (profileOf s c) x returned (recordOf s c)))
          (setInbox c b (elapse dt s)) := by
  simp only [takeEvaluation, testQualify, setInbox_recordOf, elapse_recordOf, setInbox_profileOf, elapse_profileOf,
    setInbox_failingChecks, elapse_failingChecks, hm]

end Evaluation

/-- The release where no check fails (R11). -/
theorem testQualify_released {s : State} {c : ChainNo} {r : ChainRecord} (h : failingChecks s c r = []) :
    testQualify s c r = { r with
      applied := min (profileOf s c).rampStart r.permitted
      mode := if (profileOf s c).rampStart < r.permitted then .ramp else .active } := by
  have hm : (if min (profileOf s c).rampStart r.permitted = r.permitted then ChainMode.active else .ramp)
      = if (profileOf s c).rampStart < r.permitted then .ramp else .active := by
    by_cases hlt : (profileOf s c).rampStart < r.permitted
    · rw [if_pos hlt, if_neg (by omega)]
    · rw [if_neg hlt, if_pos (by omega)]
  simp only [testQualify, h, releaseChain, hm]

/-- The set is replaced where a check fails (R11). -/
theorem testQualify_kept {s : State} {c : ChainNo} {r : ChainRecord} (h : failingChecks s c r ≠ []) :
    testQualify s c r = { r with mode := .qualify (failingChecks s c r) } := by
  unfold testQualify
  split
  · next h' => exact absurd h' h
  · next h' => rw [h']

/-- Settles O13: in the remaining states the event commits what steps 1 to 6 leave. -/
theorem evaluationUpdatesRecordOnly : Obligations.EvaluationUpdatesRecordOnly := by
  intro dt c x returned rest s hp hin hq hm
  obtain ⟨hf, hn⟩ := finishCommit_event (dt := dt) (c := c) (b := { inboxOf s c with intake := rest })
    (r := evaluateRecord (profileOf s c) x returned (recordOf s c)) hp rfl
  refine ⟨_, _, ?_, evaluateRecord_to _ _ _ _, hn, hf⟩
  rw [exec_chainEvaluation hp hin, takeEvaluation_idle hq hm]
  rfl

/-- Settles O15: the checks decide between the release and the replaced set. -/
theorem evaluationReleasesQualifiedChain : Obligations.EvaluationReleasesQualifiedChain := by
  intro dt c x returned rest set s hp hin hm
  let r := evaluateRecord (profileOf s c) x returned (recordOf s c)
  have hnil : failingChecks s c r = [] ↔ ChecksPass s c x.tout := failingChecks_nil rfl rfl rfl
  obtain ⟨hf, hn⟩ := finishCommit_event (dt := dt) (c := c) (b := { inboxOf s c with intake := rest })
    (r := testQualify s c r) hp rfl
  refine ⟨_, r, ?_, evaluateRecord_to _ _ _ _, hn, fun hc => ?_, fun hc => ?_⟩
  · rw [exec_chainEvaluation hp hin, takeEvaluation_qualify hm]
    rfl
  · rw [testQualify_released (hnil.mpr hc)] at hf ⊢
    refine ⟨hf, inhibit_released hp hf ?_⟩
    dsimp only
    split <;> simp [runState]
  · have hne : failingChecks s c r ≠ [] := fun h => hc (hnil.mp h)
    rw [testQualify_kept hne] at hf ⊢
    exact ⟨_, failingChecks_set (r := r) rfl, hf, inhibit_asserted hf rfl⟩

/-! ## Freshness changes -/

section Freshness

variable {dt : Nat} {c : ChainNo} {due : Word32} {rest : List (IntakeEvent ChainReadings)} {s : State}

theorem exec_chainFreshnessChange_stale (hp : s.phase = .running) (h : (inboxOf s c).intake = .wentStale :: rest) :
    exec (.chainFreshnessChange dt c) s
      = .next (finish (takeStale c (setInbox c { inboxOf s c with intake := rest } (elapse dt s)))) := by
  show Host.Outcome.next (whileRunning _ _) = _
  rw [whileRunning_running hp]
  simp only [freshnessEvent, elapse_inboxOf, h]

theorem exec_chainFreshnessChange_lost (hp : s.phase = .running) (h : (inboxOf s c).intake = .wentLost due :: rest) :
    exec (.chainFreshnessChange dt c) s
      = .next (finish (takeLost c due (setInbox c { inboxOf s c with intake := rest } (elapse dt s)))) := by
  show Host.Outcome.next (whileRunning _ _) = _
  rw [whileRunning_running hp]
  simp only [freshnessEvent, elapse_inboxOf, h]

end Freshness

/-- Composing a composed record changes nothing. -/
theorem compose_composed_eq {r : ChainRecord} (h : Composed r) : compose r = r := by
  unfold compose
  rw [← h.least, ← h.limiter]

/-- A recomposition of a composed record outside RAMP and ACTIVE changes nothing. -/
theorem recompose_idle {r : ChainRecord} (h : Composed r) (hm : runState r.mode = none) : recompose r = r := by
  unfold recompose
  rw [compose_composed_eq h]
  unfold followComposition
  split
  · next h' => simp [h', runState] at hm
  · next h' => simp [h', runState] at hm
  · rfl

theorem takeStale_taken {c : ChainNo} {s : State} (dt : Nat) (b : ChainInbox) :
    takeStale c (setInbox c b (elapse dt s))
      = commitChain c
          (addFailure .chainFresh
            (recompose { recordOf s c with freshness := .stale, blind := (profileOf s c).chainBlind }))
          (setInbox c b (elapse dt s)) := by
  simp only [takeStale, setInbox_recordOf, elapse_recordOf, setInbox_profileOf, elapse_profileOf]

/-- A running chain trips MEAS_LOST from the record it held, P being that of its components (R37, R108). -/
theorem takeLost_run {c : ChainNo} {due : Word32} {run : RunState} {s : State} (dt : Nat) (b : ChainInbox)
    (hc : Composed (recordOf s c)) (hm : runState (recordOf s c).mode = some run) :
    takeLost c due (setInbox c b (elapse dt s))
      = slowTrip c .measLost due run (recordOf s c).applied { recordOf s c with freshness := .lost }
          (setInbox c b (elapse dt s)) := by
  have hc' : Composed { recordOf s c with freshness := .lost } := ⟨hc.least, hc.limiter⟩
  simp only [takeLost, setInbox_recordOf, elapse_recordOf, hm, compose_composed_eq hc']

/-- Any other chain records the freshness. -/
theorem takeLost_idle {c : ChainNo} {due : Word32} {s : State} (dt : Nat) (b : ChainInbox)
    (hc : Composed (recordOf s c)) (hm : runState (recordOf s c).mode = none) :
    takeLost c due (setInbox c b (elapse dt s))
      = commitChain c (addFailure .chainFresh { recordOf s c with freshness := .lost })
          (setInbox c b (elapse dt s)) := by
  have hc' : Composed { recordOf s c with freshness := .lost } := ⟨hc.least, hc.limiter⟩
  simp only [takeLost, setInbox_recordOf, elapse_recordOf, hm]
  rw [recompose_idle hc' hm]

/-- Settles O16: the change to STALE commits a recomposed record, that to LOST a trip of a running chain or the record
with its freshness. -/
theorem chainTakesStaleAndLost : Obligations.ChainTakesStaleAndLost := by
  refine ⟨fun dt c rest s hp hin => ?stale, fun dt c due rest s hp hs hin => ?lost⟩
  case stale =>
    let r := recompose { recordOf s c with freshness := .stale, blind := (profileOf s c).chainBlind }
    have hr : addFailure .chainFresh r = { r with mode := (addFailure .chainFresh r).mode } := by
      unfold addFailure
      split <;> rfl
    obtain ⟨hf, hn⟩ := finishCommit_event (dt := dt) (c := c) (b := { inboxOf s c with intake := rest })
      (r := addFailure .chainFresh r) hp rfl
    refine ⟨_, r, (addFailure .chainFresh r).mode, ?_, hn, recompose_to _, fun set hm => ?_, fun hm => ?_, ?_⟩
    · rw [exec_chainFreshnessChange_stale hp hin, takeStale_taken]
      rfl
    · rw [addFailure_qualify hm]
      exact ⟨_, rfl, addCheck_gains _ _⟩
    · rw [addFailure_other hm]
    · rw [← hr]
      exact hf
  case lost =>
    have hc := (hs.records c).composed
    rw [exec_chainFreshnessChange_lost hp hin]
    cases hm : runState (recordOf s c).mode with
    | some run =>
      rw [takeLost_run dt _ hc hm]
      obtain ⟨hf, hn⟩ := finishSlowTrip_event (dt := dt) (c := c) (b := { inboxOf s c with intake := rest })
        (cause := .measLost) (tripTime := due) (run := run) (a := (recordOf s c).applied)
        (r := { recordOf s c with freshness := .lost }) hp rfl rfl
      refine ⟨_, rfl, hn, fun run' hrun => ?_, fun set hq => ?_, fun h => ?_⟩
      · cases hrun
        exact ⟨hf, inhibit_asserted hf rfl⟩
      · rw [runState_none_of_qualify hq] at hm
        cases hm
      · cases h
    | none =>
      rw [takeLost_idle dt _ hc hm]
      obtain ⟨hn, hq, ho⟩ := finishAddFailure_event (dt := dt) (b := { inboxOf s c with intake := rest })
        (k := .chainFresh) (r := { recordOf s c with freshness := .lost }) hp rfl rfl
      exact ⟨_, rfl, hn, fun run h => (by cases h), hq, fun _ => ho⟩

end Sys2Proof.Machine
end

section
/-! PROOFS. What the Site Monitor delivers to a chain: site trips, freshness losses and interlock changes. -/

namespace Sys2Proof.Machine

section SiteDeliveries

variable {dt : Nat} {c : ChainNo} {ceiling : Option Nat} {trip : Option SiteTrip} {x : SiteTrip} {loss : Bool}
  {rest : List SiteDelivery} {s : State}

theorem isEmpty_iff (d : SiteDelivery) : d.isEmpty = true ↔ d = ⟨none, none, false⟩ := by
  obtain ⟨ceiling, trip, loss⟩ := d
  simp [SiteDelivery.isEmpty, and_assoc]

/-- What still waits, in the terms claims use. -/
theorem afterTaking_eq (d : SiteDelivery) (rest : List SiteDelivery) : afterTaking d rest = siteLeft d rest := by
  unfold afterTaking siteLeft
  simp only [isEmpty_iff]

theorem exec_siteTripEvent (hp : s.phase = .running) (h : (inboxOf s c).site = ⟨ceiling, some x, loss⟩ :: rest) :
    exec (.siteTripEvent dt c) s
      = .next (finish (takeSiteTrip c x
          (setInbox c { inboxOf s c with site := siteLeft ⟨ceiling, none, loss⟩ rest } (elapse dt s)))) := by
  show Host.Outcome.next (whileRunning _ _) = _
  rw [whileRunning_running hp]
  simp only [siteTripTaken, elapse_inboxOf, h, afterTaking_eq]

theorem exec_siteFreshnessLoss (hp : s.phase = .running) (h : (inboxOf s c).site = ⟨ceiling, trip, true⟩ :: rest) :
    exec (.siteFreshnessLoss dt c) s
      = .next (finish (takeSiteLoss c
          (setInbox c { inboxOf s c with site := siteLeft ⟨ceiling, trip, false⟩ rest } (elapse dt s)))) := by
  show Host.Outcome.next (whileRunning _ _) = _
  rw [whileRunning_running hp]
  simp only [siteLossTaken, elapse_inboxOf, h, afterTaking_eq]

/-- A part that the front delivery does not hold is not taken. -/
theorem exec_siteCeilingChange_absent {d : SiteDelivery} (hp : s.phase = .running)
    (h : (inboxOf s c).site = d :: rest) (hd : d.ceiling = none) :
    exec (.siteCeilingChange dt c) s = .next (elapse dt s) := by
  obtain ⟨_, _, _⟩ := d
  cases hd
  show Host.Outcome.next (whileRunning _ _) = _
  rw [whileRunning_running hp]
  simp only [ceilingEvent, elapse_inboxOf, h]

theorem exec_siteTripEvent_absent {d : SiteDelivery} (hp : s.phase = .running)
    (h : (inboxOf s c).site = d :: rest) (hd : d.trip = none) :
    exec (.siteTripEvent dt c) s = .next (elapse dt s) := by
  obtain ⟨_, _, _⟩ := d
  cases hd
  show Host.Outcome.next (whileRunning _ _) = _
  rw [whileRunning_running hp]
  simp only [siteTripTaken, elapse_inboxOf, h]

theorem exec_siteFreshnessLoss_absent {d : SiteDelivery} (hp : s.phase = .running)
    (h : (inboxOf s c).site = d :: rest) (hd : d.loss = false) :
    exec (.siteFreshnessLoss dt c) s = .next (elapse dt s) := by
  obtain ⟨_, _, _⟩ := d
  cases hd
  show Host.Outcome.next (whileRunning _ _) = _
  rw [whileRunning_running hp]
  simp only [siteLossTaken, elapse_inboxOf, h]

theorem takeSiteTrip_run {run : RunState} (b : ChainInbox) (hm : runState (recordOf s c).mode = some run) :
    takeSiteTrip c x (setInbox c b (elapse dt s))
      = slowTrip c (siteTripCause x) (siteClock (elapse dt s)) run (recordOf s c).applied (recordOf s c)
          (setInbox c b (elapse dt s)) := by
  simp only [takeSiteTrip, setInbox_recordOf, elapse_recordOf, hm]
  rfl

theorem takeSiteTrip_idle (b : ChainInbox) (hm : runState (recordOf s c).mode = none) :
    takeSiteTrip c x (setInbox c b (elapse dt s))
      = commitChain c (addFailure (siteTripCheck x) (recordOf s c)) (setInbox c b (elapse dt s)) := by
  simp only [takeSiteTrip, setInbox_recordOf, elapse_recordOf, hm]

end SiteDeliveries

/-- The dwell class of each site trip (Table 6-1). -/
def siteTripClass (x : SiteTrip) : DwellClass :=
  match x with
  | .feederMismatch => .mismatch
  | .rejectOvertemp => .thermal
  | .siteMeasLost => .measurement

theorem causeClass_siteTrip (x : SiteTrip) : causeClass (siteTripCause x) = some (siteTripClass x) := by
  cases x <;> rfl

theorem siteTripCheck_eq (x : SiteTrip) :
    siteTripCheck x = if x = .siteMeasLost then Check.siteFresh else Check.siteOk := by
  cases x <;> rfl

/-- The weight sum of two lists joined. -/
theorem weightSum_append (l k : List TripEntry) : weightSum (l ++ k) = weightSum l + weightSum k := by
  simp [weightSum]

/-- Settles O18: a site trip by the chain's state, a freshness loss, and what the front delivery does not hold. -/
theorem siteTripTakenByState : Obligations.SiteTripTakenByState := by
  refine ⟨fun dt c ceiling x loss rest s hp hin => ?trip, fun dt c ceiling trip rest s hp hin => ?loss,
    fun dt c x rest s hp hin => ⟨exec_siteCeilingChange_absent hp hin, exec_siteTripEvent_absent hp hin,
      exec_siteFreshnessLoss_absent hp hin⟩⟩
  case trip =>
    rw [exec_siteTripEvent hp hin]
    cases hm : runState (recordOf s c).mode with
    | some run =>
      rw [takeSiteTrip_run _ hm]
      obtain ⟨hf, hn⟩ := finishSlowTrip_event (dt := dt) (c := c)
        (b := { inboxOf s c with site := siteLeft ⟨ceiling, none, loss⟩ rest })
        (tripTime := siteClock (elapse dt s)) (run := run) (a := (recordOf s c).applied) (r := recordOf s c) hp rfl
        (causeClass_siteTrip x)
      refine ⟨_, rfl, hn, fun run' cause lengths entries added hrun hx => ?_, fun set hq => ?_, fun h => ?_⟩
      · cases hrun
        refine ⟨?_, inhibit_asserted hf rfl⟩
        have hl : appendTrip (siteTripCause x) (siteClock (elapse dt s)) (recordOf s c).tripList
            = (recordOf s c).tripList ++ entries ∧ cause = siteTripCause x
              ∧ lengths = dwellOf (profileOf s c) (siteTripClass x) ∧ weightSum entries = added := by
          cases x <;> obtain ⟨rfl, rfl, rfl, rfl⟩ := hx
          · exact ⟨rfl, rfl, rfl, rfl⟩
          · exact ⟨rfl, rfl, rfl, rfl⟩
          · exact ⟨(List.append_nil _).symm, rfl, rfl, rfl⟩
        obtain ⟨he, rfl, rfl, rfl⟩ := hl
        rw [he, weightSum_append] at hf
        exact hf
      · rw [runState_none_of_qualify hq] at hm
        cases hm
      · cases h
    | none =>
      rw [takeSiteTrip_idle _ hm]
      obtain ⟨hn, hq, ho⟩ := finishAddFailure_event (dt := dt)
        (b := { inboxOf s c with site := siteLeft ⟨ceiling, none, loss⟩ rest })
        (k := siteTripCheck x) (r := recordOf s c) hp rfl rfl
      refine ⟨_, rfl, hn, fun run cause lengths entries added h => (by cases h), ?_, fun _ => ho⟩
      rw [← siteTripCheck_eq]
      exact hq
  case loss =>
    have ht : takeSiteLoss c
          (setInbox c { inboxOf s c with site := siteLeft ⟨ceiling, trip, false⟩ rest } (elapse dt s))
        = commitChain c (addFailure .siteFresh (recordOf s c))
            (setInbox c { inboxOf s c with site := siteLeft ⟨ceiling, trip, false⟩ rest } (elapse dt s)) := by
      rw [takeSiteLoss, setInbox_recordOf, elapse_recordOf]
    rw [exec_siteFreshnessLoss hp hin, ht]
    exact ⟨_, rfl, finishAddFailure_event hp rfl rfl⟩

/-! ## The interlock at a chain -/

section Interlock

variable {dt : Nat} {c : ChainNo} {rest : List InterlockChange} {s : State}

theorem exec_chainInterlockOpening (hp : s.phase = .running) (h : (inboxOf s c).interlock = .opening :: rest) :
    exec (.chainInterlockOpening dt c) s
      = .next (finish (takeOpening c (setInbox c { inboxOf s c with interlock := rest } (elapse dt s)))) := by
  show Host.Outcome.next (whileRunning _ _) = _
  rw [whileRunning_running hp]
  simp only [openingEvent, elapse_inboxOf, h]

theorem exec_chainInterlockClosing (hp : s.phase = .running) (h : (inboxOf s c).interlock = .closing :: rest) :
    exec (.chainInterlockClosing dt c) s
      = .next (setInbox c { inboxOf s c with interlock := rest } (elapse dt s)) := by
  show Host.Outcome.next (whileRunning _ _) = _
  rw [whileRunning_running hp]
  simp only [closingEvent, elapse_inboxOf, h]

/-- An opening sends a running chain to QUALIFY, with the checks that fail before the event was taken (R23). -/
theorem takeOpening_run (b : ChainInbox) (hm : runState (recordOf s c).mode ≠ none) :
    takeOpening c (setInbox c b (elapse dt s))
      = commitChain c (addFailure .interlock (enterQualify s c (recordOf s c))) (setInbox c b (elapse dt s)) := by
  obtain ⟨run, hr⟩ := Option.ne_none_iff_exists'.mp hm
  simp only [takeOpening, enterQualify, setInbox_recordOf, elapse_recordOf, setInbox_failingChecks,
    elapse_failingChecks, hr]

theorem takeOpening_idle (b : ChainInbox) (hm : runState (recordOf s c).mode = none) :
    takeOpening c (setInbox c b (elapse dt s))
      = commitChain c (addFailure .interlock (recordOf s c)) (setInbox c b (elapse dt s)) := by
  simp only [takeOpening, setInbox_recordOf, elapse_recordOf, hm]

end Interlock

/-- Settles O19: an opening by the chain's state, and a closing, which only leaves the inbox. -/
theorem interlockSendsRunningChainToQualify : Obligations.InterlockSendsRunningChainToQualify := by
  refine ⟨fun dt c rest s hp hin => ?opening, fun dt c rest s hp hin =>
    ⟨_, exec_chainInterlockClosing hp hin, rfl⟩⟩
  case opening =>
    rw [exec_chainInterlockOpening hp hin]
    by_cases hm : runState (recordOf s c).mode = none
    · rw [takeOpening_idle _ hm]
      obtain ⟨hn, hq, ho⟩ := finishAddFailure_event (dt := dt) (b := { inboxOf s c with interlock := rest })
        (k := .interlock) (r := recordOf s c) hp rfl rfl
      exact ⟨_, rfl, hn, fun h => absurd hm h, hq, fun _ => ho⟩
    · rw [takeOpening_run _ hm]
      obtain ⟨hn, hq, -⟩ := finishAddFailure_event (dt := dt) (b := { inboxOf s c with interlock := rest })
        (k := .interlock) (r := enterQualify s c (recordOf s c)) hp rfl rfl
      refine ⟨_, rfl, hn, fun _ => ?_, fun set h => absurd (runState_none_of_qualify h) hm, fun h => absurd h hm⟩
      obtain ⟨set', hg, hf⟩ := hq _ rfl
      exact ⟨_, set', failingChecks_set rfl, hg, hf, inhibit_asserted hf rfl⟩

end Sys2Proof.Machine
end

section
/-! PROOFS. Frame ticks and a chain's own timers. -/

namespace Sys2Proof.Machine

/-- A failing set depends on the chain's profile and flow rate, the Intake, the lines in and the Site Monitor. -/
theorem FailingSet.congr {s t : State} {c : ChainNo} {tout : Option Int} {latch : Bool} {set : List Check}
    (h : FailingSet s c tout latch set) (hp : profileOf t c = profileOf s c) (hi : t.intake = s.intake)
    (hn : t.pins = s.pins) (hs : t.site = s.site) (hf : (recordOf t c).flowRate = (recordOf s c).flowRate) :
    FailingSet t c tout latch set where
  chainFresh := by rw [hi]; exact h.chainFresh
  siteFresh := by rw [hi]; exact h.siteFresh
  temp := by rw [hp]; exact h.temp
  flow := by rw [hp, hf]; exact h.flow
  arcClear := by rw [hp, hn]; exact h.arcClear
  surgeClear := by rw [hn]; exact h.surgeClear
  interlock := by rw [hs]; exact h.interlock
  siteOk := by rw [hs]; exact h.siteOk
  latch := h.latch

/-- The lockout decision after time has passed, from a record that differs from the chain's in its state alone. -/
theorem decideLockout_later {s : State} {c : ChainNo} (dt : Nat) (m : ChainMode) :
    LockoutDecided s c (siteClock (elapse dt s)) (recordOf s c)
      (decideLockout (elapse dt s) c { recordOf s c with mode := m }) := by
  obtain ⟨hlist, hlocked, hfreed, hrest⟩ := decideLockout_to (elapse dt s) c { recordOf s c with mode := m } rfl
  refine ⟨hlist, hlocked, fun h => ?_, hrest⟩
  obtain ⟨⟨set, hm, hset⟩, hl⟩ := hfreed h
  exact ⟨⟨set, hm, hset.congr rfl rfl rfl rfl rfl⟩, hl⟩

/-- A chain event leaves the site clock at the time it was taken. -/
theorem ChainFrame.siteClock {dt : Nat} {c : ChainNo} {x : Chain} {l : List HandedRecord} {s t : State}
    (h : ChainFrame dt c x l s t) : siteClock t = siteClock (elapse dt s) := by
  rw [h.rest]
  rfl

section Ticks

variable {s : State} {c : ChainNo} {r : ChainRecord}

/-- A tick in RAMP with A below P (R14, R139). -/
theorem tickRecord_ramp (hm : r.mode = .ramp) (ha : r.applied < r.permitted) :
    tickRecord s c r = { r with
      applied := r.applied + min (profileOf s c).rampStep (r.permitted - r.applied)
      mode := if r.permitted ≤ r.applied + (profileOf s c).rampStep then .active else .ramp } := by
  have h : r.applied + min (profileOf s c).rampStep (r.permitted - r.applied) = r.permitted
      ↔ r.permitted ≤ r.applied + (profileOf s c).rampStep := by omega
  simp only [tickRecord, raiseApplied, hm, if_pos ha, h]

/-- A tick in ACTIVE with A below P (R139). -/
theorem tickRecord_active (hm : r.mode = .active) (ha : r.applied < r.permitted) :
    tickRecord s c r = { r with
      applied := r.applied + min (profileOf s c).recoverStep (r.permitted - r.applied) } := by
  simp only [tickRecord, raiseApplied, hm, if_pos ha]

/-- A tick where A is P. -/
theorem tickRecord_full (hm : runState r.mode ≠ none) (ha : r.permitted ≤ r.applied) : tickRecord s c r = r := by
  have hn : ¬ r.applied < r.permitted := Nat.not_lt.mpr ha
  cases h : r.mode <;> simp [h, runState] at hm <;> simp only [tickRecord, h, if_neg hn]

/-- A tick in DISABLED, QUALIFY, CLASSIFY or LOCKOUT. -/
theorem tickRecord_other (hm : modeState r.mode ∈ [ChainState.disabled, .qualify, .classify, .lockout]) :
    tickRecord s c r = r := by
  cases h : r.mode <;> simp [h, modeState] at hm <;> simp only [tickRecord, h]

/-- The tick that brings the count to the dwell ticks with the dwell's time met makes the lockout decision. -/
theorem tickRecord_decides {cause : TripCause} {d : Dwell} (hm : r.mode = .holdoff cause d) (hd : d.ticksLeft = 1)
    (ht : d.startedAt + d.lengths.time * 10000 ≤ s.time) :
    tickRecord s c r = decideLockout s c { r with mode := .holdoff cause { d with ticksLeft := 0 } } := by
  simp [tickRecord, hm, hd, dwellTimeMet, ht]

/-- Any other tick in HOLDOFF is only counted. -/
theorem tickRecord_counts {cause : TripCause} {d : Dwell} (hm : r.mode = .holdoff cause d)
    (hd : d.ticksLeft ≠ 1 ∨ s.time < d.startedAt + d.lengths.time * 10000) :
    tickRecord s c r = { r with mode := .holdoff cause { d with ticksLeft := d.ticksLeft - 1 } } := by
  unfold tickRecord
  simp only [hm]
  split
  · next h0 =>
    have h1 : d.ticksLeft - 1 = d.ticksLeft := by omega
    rw [h1, ← hm]
  · next h0 =>
    have hn : ¬ (d.ticksLeft - 1 = 0
        ∧ dwellTimeMet s.time { d with ticksLeft := d.ticksLeft - 1 } = true) := by
      simp only [dwellTimeMet, decide_eq_true_eq]
      omega
    rw [if_neg hn]

theorem exec_chainFrameTick {dt n : Nat} (hp : s.phase = .running) (h : (inboxOf s c).ticks = n + 1) :
    exec (.chainFrameTick dt c) s
      = .next (finish (commitChain c (tickRecord (elapse dt s) c (recordOf s c))
          (setInbox c { inboxOf s c with ticks := n } (elapse dt s)))) := by
  show Host.Outcome.next (whileRunning _ _) = _
  rw [whileRunning_running hp]
  simp only [tickEvent, elapse_inboxOf, h, elapse_recordOf]

end Ticks

/-- Settles O25: what the tick makes of the record, state by state. -/
theorem frameTickRaisesOrCounts : Obligations.FrameTickRaisesOrCounts := by
  intro dt c n s hp hin
  obtain ⟨hf, hn⟩ := finishCommit_event (dt := dt) (c := c) (b := { inboxOf s c with ticks := n })
    (s1 := setInbox c { inboxOf s c with ticks := n } (elapse dt s))
    (r := tickRecord (elapse dt s) c (recordOf s c)) hp rfl
  refine ⟨_, tickRecord (elapse dt s) c (recordOf s c), exec_chainFrameTick hp hin, hn, tickRecord_ramp,
    tickRecord_active, tickRecord_full, tickRecord_other, fun cause d hm => ⟨fun ⟨hd, ht⟩ => ?_, fun hd => ?_⟩, hf⟩
  · rw [hf.siteClock, tickRecord_decides (s := elapse dt s) hm hd ht]
    exact decideLockout_later dt _
  · exact tickRecord_counts (s := elapse dt s) hm hd

/-! ## A chain's own timers -/

/-- Committing a record that differs in nothing the bus, the notices, the latches or the alarm reasons depend on. -/
theorem commitChain_quiet {c : ChainNo} {r : ChainRecord} {s : State} (ha : r.applied = (recordOf s c).applied)
    (hm : modeState r.mode = modeState (recordOf s c).mode) (hl : r.limiter = (recordOf s c).limiter)
    (hk : r.latch = (recordOf s c).latch) : commitChain c r s = setRecord c r s := by
  simp only [commitChain, ha, hm, hl, hk, and_self, if_true]

theorem exec_runOnExpiry {dt ends : Nat} {c : ChainNo} {s : State} (hp : s.phase = .running)
    (hm : (recordOf s c).mode = .disabled (some ends)) (he : ends ≤ s.time + dt) :
    exec (.runOnExpiry dt c) s
      = .next (finish (commitChain c { recordOf s c with mode := .disabled none } (elapse dt s))) := by
  have hq : commitChain c { recordOf s c with mode := .disabled none } (elapse dt s)
      = setRecord c { recordOf s c with mode := .disabled none } (elapse dt s) :=
    commitChain_quiet rfl (by rw [elapse_recordOf, hm]; rfl) rfl rfl
  show Host.Outcome.next (whileRunning _ _) = _
  rw [whileRunning_running hp, hq]
  simp only [expireRunOn, elapse_recordOf, hm, elapse_time, he, if_true]

/-- A chain event in a part that runs drives the chain's cooling-demand line from its record. -/
theorem ChainFrame.cooling {dt : Nat} {c : ChainNo} {x : Chain} {l : List HandedRecord} {s t : State}
    (h : ChainFrame dt c x l s t) (hp : s.phase = .running) : t.lines.cooling.get c = coolingFor x.record := by
  have hr : t.phase = .running := by
    rw [h.rest]
    exact hp
  rw [h.lines]
  unfold linesOf
  simp [heldAsserted, hr, h.chain]

/-- Settles O26: the aged entries leave, and the run-on time leaves a chain in DISABLED. -/
theorem ownTimersExpire : Obligations.OwnTimersExpire := by
  intro dt c s hp
  refine ⟨?_, fun ends hm he => ?_⟩
  · show Host.Outcome.next (whileRunning _ _) = _
    rw [whileRunning_running hp]
    rfl
  · obtain ⟨hf, hn⟩ := finishCommit_event (dt := dt) (c := c) (b := inboxOf s c) (s1 := elapse dt s)
      (r := { recordOf s c with mode := .disabled none }) hp (by
        show elapse dt s = { s with time := s.time + dt, chains := s.chains.set c (s.chains.get c) }
        rw [Quad.set_get]
        rfl)
    exact ⟨_, exec_runOnExpiry hp hm he, hn, hf, by rw [hf.cooling hp]; rfl⟩

end Sys2Proof.Machine
end

section
/-! PROOFS. The operator's requests at a chain: SET_LEVEL, CHAIN_ON, CHAIN_OFF and CLEAR_LOCKOUT. -/

namespace Sys2Proof.Machine

/-! ## Shared -/

section Requests

variable {dt : Nat} {kind tag b : Byte} {c : ChainNo} {s : State}

@[simp] theorem requestState_recordOf : recordOf (requestState dt kind tag s) c = recordOf s c := rfl

@[simp] theorem requestState_failingChecks (r : ChainRecord) :
    failingChecks (requestState dt kind tag s) c r = failingChecks s c r := failingChecks_congr rfl rfl rfl rfl r

/-- A request that changes no more than the chain's record is served on the state in which it was taken. -/
theorem finishCommit_requestState {r : ChainRecord} {body : List Byte} (hp : s.phase = .running) :
    ChainFrame dt c { s.chains.get c with record := r } s.capture.handed s
        (finish (produceReply kind tag (.accept body) (commitChain c r (requestState dt kind tag s))))
      ∧ RequestTaken kind tag (acceptance kind tag body)
          (chainFlags c s
            (finish (produceReply kind tag (.accept body) (commitChain c r (requestState dt kind tag s))))) s
          (finish (produceReply kind tag (.accept body) (commitChain c r (requestState dt kind tag s)))) :=
  finishCommit_request hp rfl

/-- The body that reports a chain's state. -/
theorem stateBody_eq (hb : b.toNat = c.val) (n : Nat) : bytes8 c.val ++ bytes8 n = [b, BitVec.ofNat 8 n] := by
  rw [bytes8_chain hb]
  rfl
end Requests

/-! ## SET_LEVEL -/

section SetLevel

variable {dt : Nat} {tag b0 b1 b2 : Byte} {s : State}

theorem serveChain_refused {serve : ChainNo → List Byte → State → State × Answer} {rest : List Byte}
    (hb : 4 ≤ b0.toNat) : serveChain serve (b0 :: rest) s = (s, .refuse .designation [b0]) := by
  have hn : chainOf b0 = none := by
    unfold chainOf
    rw [dif_neg (by omega)]
  simp [serveChain, byteAt, hn]

theorem exec_setLevel (h : CanTake s) :
    exec (requestOf .setLevel dt ⟨0x10, tag, [b0, b1, b2]⟩) s
      = .next (finish (produceReply 0x10 tag
          (serveChain serveSetLevel [b0, b1, b2] (requestState dt 0x10 tag s)).2
          (serveChain serveSetLevel [b0, b1, b2] (requestState dt 0x10 tag s)).1)) :=
  congrArg Host.Outcome.next (takeRequest_taken h (by simp) rfl)

theorem exec_setLevel_badLength {body : List Byte} (h : CanTake s) (hl : body.length ≤ 248) (hb : body.length ≠ 3) :
    exec (requestOf .setLevel dt ⟨0x10, tag, body⟩) s
      = .next (finish (produceReply 0x10 tag (.refuse .badLength (bytes8 3)) (requestState dt 0x10 tag s))) :=
  congrArg Host.Outcome.next (takeRequest_badLength h hl hb)

end SetLevel

/-- Settles O41: taken, refused for its chain, refused for its length. -/
theorem setLevelTakesClampedValue : Obligations.SetLevelTakesClampedValue := by
  refine fun dt tag b0 b1 b2 s hs => ⟨fun c hb => ?taken, fun hb => ?designation, fun body hl hb => ?length⟩
  case taken =>
    obtain ⟨hf, ht⟩ := finishCommit_requestState (dt := dt) (kind := 0x10) (tag := tag) (c := c)
      (r := recompose { recordOf s c with setPoint := min 1000 (256 * b1.toNat + b2.toNat) })
      (body := bytes8 c.val ++ bytes16 (min 1000 (256 * b1.toNat + b2.toNat))) hs.running
    rw [bytes8_chain hb] at hf ht
    refine ⟨_, _, _, ?_, rfl, recompose_to _, ht, hf⟩
    rw [exec_setLevel hs, serveChain_eq hb, ← bytes8_chain hb]
    rfl
  case designation =>
    rw [exec_setLevel hs, serveChain_refused hb]
    exact ⟨_, rfl, answer_unchanged hs.running fun _ => rfl⟩
  case length =>
    rw [exec_setLevel_badLength hs hl hb]
    exact ⟨_, rfl, answer_unchanged hs.running fun _ => rfl⟩

/-! ## CHAIN_ON -/

section ChainOn

variable {c : ChainNo} {body : List Byte} {u : State} {ends : Option Nat}

theorem exec_chainOn {dt : Nat} {tag b : Byte} {s : State} (h : CanTake s) (hb : b.toNat = c.val) :
    exec (requestOf .chainOn dt ⟨0x11, tag, [b]⟩) s
      = .next (finish (produceReply 0x11 tag (serveChainOn c [b] (requestState dt 0x11 tag s)).2
          (serveChainOn c [b] (requestState dt 0x11 tag s)).1)) := by
  rw [← serveChain_eq (serve := serveChainOn) hb]
  exact congrArg Host.Outcome.next (takeRequest_taken h (by simp) rfl)

theorem serveChainOn_refused (hm : (recordOf u c).mode = .disabled ends) (hl : (recordOf u c).latch = true) :
    serveChainOn c body u = (u, .refuse .lockedOut []) := by
  simp [serveChainOn, hm, hl, modeState]

/-- Outside a latched DISABLED the record is switched on and its state reported. -/
theorem serveChainOn_taken (h : ¬ (modeState (recordOf u c).mode = .disabled ∧ (recordOf u c).latch = true)) :
    serveChainOn c body u
      = (commitChain c (switchOnRecord u c (recordOf u c)) u, .accept (bytes8 c.val
          ++ bytes8 (stateCode (modeState (switchOnRecord u c (recordOf u c)).mode)))) := by
  simp only [serveChainOn, if_neg h]
  exact acceptChainState_commit c _ u

theorem switchOnRecord_locksOut {r : ChainRecord} (hm : r.mode = .disabled ends) (ha : r.applied = 0)
    (hw : (profileOf u c).lockoutLimit ≤ weightSum r.tripList) :
    switchOnRecord u c r = { r with mode := .lockout, latch := true } := by
  simp only [switchOnRecord, hm, if_pos hw, ha]

theorem switchOnRecord_qualifies {r : ChainRecord} (hm : r.mode = .disabled ends) (ha : r.applied = 0)
    (hw : weightSum r.tripList < (profileOf u c).lockoutLimit) :
    switchOnRecord u c r = { r with mode := .qualify (failingChecks u c r) } := by
  simp only [switchOnRecord, hm, if_neg (Nat.not_le.mpr hw), enterQualify, ha]

theorem switchOnRecord_other {r : ChainRecord} (hm : modeState r.mode ≠ .disabled) : switchOnRecord u c r = r := by
  unfold switchOnRecord
  split
  · next h => exact absurd (congrArg modeState h) hm
  · rfl

end ChainOn

/-- Settles O42: the three cases of a chain in DISABLED, and every other state. -/
theorem chainOnQualifiesOrLocksOut : Obligations.ChainOnQualifiesOrLocksOut := by
  intro dt tag b c s hs hb
  rw [exec_chainOn hs hb]
  refine ⟨_, rfl, fun ends hm => ⟨fun hl => ?refused, fun hl ha => ⟨fun hw => ?locksOut, fun hw => ?qualifies⟩⟩,
    fun hm => ?other⟩
  case refused =>
    rw [serveChainOn_refused (u := requestState dt 0x11 tag s) hm hl]
    exact answer_unchanged hs.running fun _ => rfl
  case locksOut =>
    rw [serveChainOn_taken (by simp [hl]), requestState_recordOf,
      switchOnRecord_locksOut (u := requestState dt 0x11 tag s) hm ha hw, stateBody_eq hb]
    obtain ⟨hf, ht⟩ := finishCommit_requestState (dt := dt) (kind := 0x11) (tag := tag) (c := c)
      (r := { recordOf s c with mode := .lockout, latch := true }) (body := [b, 0x06]) hs.running
    exact ⟨ht, hf⟩
  case qualifies =>
    rw [serveChainOn_taken (by simp [hl]), requestState_recordOf,
      switchOnRecord_qualifies (u := requestState dt 0x11 tag s) hm ha hw, stateBody_eq hb, requestState_failingChecks]
    obtain ⟨hf, ht⟩ := finishCommit_requestState (dt := dt) (kind := 0x11) (tag := tag) (c := c)
      (r := { recordOf s c with mode := .qualify (failingChecks s c (recordOf s c)) }) (body := [b, 0x01]) hs.running
    have hset := failingChecks_set (s := s) (c := c) (r := recordOf s c) rfl
    rw [hl] at hset
    exact ⟨_, ht, hset, hf⟩
  case other =>
    have hn : ¬ (modeState (recordOf s c).mode = .disabled ∧ (recordOf s c).latch = true) := fun h => hm h.1
    rw [serveChainOn_taken (u := requestState dt 0x11 tag s) hn, requestState_recordOf, switchOnRecord_other hm,
      stateBody_eq hb, ← requestState_recordOf (dt := dt) (kind := 0x11) (tag := tag), commitChain_self]
    exact answer_unchanged hs.running fun _ => rfl

/-! ## CHAIN_OFF -/

section ChainOff

variable {c : ChainNo} {body : List Byte} {u : State}

theorem exec_chainOff {dt : Nat} {tag b : Byte} {s : State} (h : CanTake s) (hb : b.toNat = c.val) :
    exec (requestOf .chainOff dt ⟨0x12, tag, [b]⟩) s
      = .next (finish (produceReply 0x12 tag (serveChainOff c [b] (requestState dt 0x12 tag s)).2
          (serveChainOff c [b] (requestState dt 0x12 tag s)).1)) := by
  rw [← serveChain_eq (serve := serveChainOff) hb]
  exact congrArg Host.Outcome.next (takeRequest_taken h (by simp) rfl)

theorem switchOff_disabled {ends : Option Nat} (hm : (recordOf u c).mode = .disabled ends) : switchOff c u = u := by
  simp only [switchOff, hm]

/-- From CLASSIFY the trip is settled first (R19). -/
theorem switchOff_classify {cause : TripCause} {snap : Snapshot} {ends : Nat}
    (hm : (recordOf u c).mode = .classify cause snap ends) :
    switchOff c u = commitChain c
      (enterDisabled u.time (profileOf u c)
        { recordOf u c with tripList := fastTripList cause snap (recordOf u c) })
      (handRecord (chainSource c) (fastCapture c cause snap (fastTripList cause snap (recordOf u c))) u) := by
  simp only [switchOff, hm]

theorem switchOff_other
    (hm : modeState (recordOf u c).mode ∈ [ChainState.qualify, .ramp, .active, .holdoff, .lockout]) :
    switchOff c u = commitChain c (enterDisabled u.time (profileOf u c) (recordOf u c)) u := by
  cases h : (recordOf u c).mode <;> simp [h, modeState] at hm <;> simp only [switchOff, h]

/-- The acceptance of CHAIN_OFF reports the state the chain was committed in. -/
theorem serveChainOff_commit {r : ChainRecord} {s1 : State} (h : switchOff c u = commitChain c r s1) :
    serveChainOff c body u = (commitChain c r s1, .accept (bytes8 c.val ++ bytes8 (stateCode (modeState r.mode)))) := by
  unfold serveChainOff
  rw [h]
  exact acceptChainState_commit c r s1

/-- A chain stands in DISABLED, in CLASSIFY or in one of the other five states. -/
theorem mode_cases (m : ChainMode) :
    (∃ ends, m = .disabled ends) ∨ (∃ cause snap ends, m = .classify cause snap ends)
      ∨ modeState m ∈ [ChainState.qualify, .ramp, .active, .holdoff, .lockout] := by
  cases m <;> simp [modeState]

end ChainOff

/-- The entry that a fast trip of one of its causes makes, and its weight (R99, R107). -/
theorem fastTripList_of_cause {cause : TripCause} {snap : Snapshot} {weight : Nat} {r : ChainRecord}
    (h : cause = .arcConfirmed ∧ weight = 2 ∨ (cause = .arcFlash ∨ cause = .surge) ∧ weight = 1) :
    fastTripList cause snap r = r.tripList ++ [⟨snap.tripTime, cause⟩]
      ∧ weightSum (fastTripList cause snap r) = weightSum r.tripList + weight := by
  have hl : fastTripList cause snap r = r.tripList ++ [⟨snap.tripTime, cause⟩]
      ∧ weightSum [⟨snap.tripTime, cause⟩] = weight := by
    obtain ⟨rfl, rfl⟩ | ⟨rfl | rfl, rfl⟩ := h <;> exact ⟨rfl, rfl⟩
  obtain ⟨he, hw⟩ := hl
  rw [he, weightSum_append, hw]
  exact ⟨rfl, rfl⟩

/-- Settles O43: a chain in DISABLED stays, one in CLASSIFY has its trip settled, any other enters DISABLED. -/
theorem chainOffDisables : Obligations.ChainOffDisables := by
  intro dt tag b c s hs hb
  rw [exec_chainOff hs hb]
  obtain ⟨ends, hm⟩ | ⟨cause, snap, ends, hm⟩ | hm := mode_cases (recordOf s c).mode
  · have hk := commitChain_self c (requestState dt 0x12 tag s)
    have ho : serveChainOff c [b] (requestState dt 0x12 tag s)
        = (commitChain c (recordOf s c) (requestState dt 0x12 tag s), .accept [b, 0x00]) := by
      rw [serveChainOff_commit ((switchOff_disabled (u := requestState dt 0x12 tag s) hm).trans hk.symm),
        requestState_recordOf, hm, stateBody_eq hb]
      rfl
    obtain ⟨hf, ht⟩ := finishCommit_requestState (dt := dt) (kind := 0x12) (tag := tag) (c := c) (r := recordOf s c)
      (body := [b, 0x00]) hs.running
    rw [ho]
    refine ⟨_, rfl, ht, inhibit_asserted hf (by simp [hm, runState]), fun _ => ?_,
      fun _ _ _ _ h => (by cases hm.symm.trans h), fun h => (by simp [hm, modeState] at h)⟩
    rw [requestState_recordOf] at hk
    rw [hk]
    exact (answer_unchanged (m := acceptance 0x12 tag [b, 0x00]) hs.running fun _ => rfl).1
  · rw [serveChainOff_commit (switchOff_classify (u := requestState dt 0x12 tag s) hm), stateBody_eq hb]
    obtain ⟨hf, ht⟩ := finishCommit_request (dt := dt) (kind := 0x12) (tag := tag) (c := c)
      (s1 := handRecord (chainSource c) (fastCapture c cause snap (fastTripList cause snap (recordOf s c)))
        (requestState dt 0x12 tag s))
      (r := enterDisabled (s.time + dt) (profileOf s c)
        { recordOf s c with tripList := fastTripList cause snap (recordOf s c) })
      (body := [b, 0x00]) hs.running rfl
    refine ⟨_, rfl, ht, inhibit_asserted hf rfl, fun h => (by simp [hm, modeState] at h),
      fun cause' snap' ends' weight hm' hw => ?_, fun h => (by simp [hm, modeState] at h)⟩
    cases hm.symm.trans hm'
    obtain ⟨hl, hsum⟩ := fastTripList_of_cause (snap := snap) (r := recordOf s c) hw
    rw [← hl, ← hsum]
    exact hf
  · rw [serveChainOff_commit (switchOff_other (u := requestState dt 0x12 tag s) hm), stateBody_eq hb]
    obtain ⟨hf, ht⟩ := finishCommit_requestState (dt := dt) (kind := 0x12) (tag := tag) (c := c)
      (r := enterDisabled (s.time + dt) (profileOf s c) (recordOf s c)) (body := [b, 0x00]) hs.running
    refine ⟨_, rfl, ht, inhibit_asserted hf rfl, fun h => (by rw [h] at hm; simp at hm),
      fun _ _ _ _ h => (by simp [h, modeState] at hm), fun _ => hf⟩

/-! ## CLEAR_LOCKOUT -/

section ClearLockout

variable {c : ChainNo} {u : State} {r : ChainRecord}

theorem exec_clearLockout {dt : Nat} {tag b : Byte} {s : State} (h : CanTake s) (hb : b.toNat = c.val) :
    exec (requestOf .clearLockout dt ⟨0x13, tag, [b]⟩) s
      = .next (finish (produceReply 0x13 tag (serveClearLockout c [b] (requestState dt 0x13 tag s)).2
          (serveClearLockout c [b] (requestState dt 0x13 tag s)).1)) := by
  rw [← serveChain_eq (serve := serveClearLockout) hb]
  exact congrArg Host.Outcome.next (takeRequest_taken h (by simp) rfl)

theorem serveClearLockout_eq (body : List Byte) :
    serveClearLockout c body u
      = (commitChain c (clearLockoutRecord u c (recordOf u c)) u, .accept (bytes8 c.val
          ++ bytes8 (stateCode (modeState (clearLockoutRecord u c (recordOf u c)).mode)))) :=
  acceptChainState_commit c _ u

theorem clearLockoutRecord_lockout (hl : r.latch = true) (hm : r.mode = .lockout) (ha : r.applied = 0) :
    clearLockoutRecord u c r = { r with
      mode := .qualify (failingChecks u c { r with latch := false, tripList := [] })
      latch := false
      tripList := [] } := by
  simp only [clearLockoutRecord, hl, if_true, hm, enterQualify, ha]

theorem clearLockoutRecord_disabled (hl : r.latch = true) (hm : modeState r.mode = .disabled) :
    clearLockoutRecord u c r = { r with latch := false, tripList := [] } := by
  cases h : r.mode <;> simp [h, modeState] at hm
  simp only [clearLockoutRecord, hl, if_true, h]

theorem clearLockoutRecord_clear (hl : r.latch = false) : clearLockoutRecord u c r = r := by
  simp [clearLockoutRecord, hl]

end ClearLockout

/-- Settles O44: a set latch in LOCKOUT, a set latch in DISABLED, and a clear one. -/
theorem clearLockoutClearsLatch : Obligations.ClearLockoutClearsLatch := by
  intro dt tag b c s hs hb
  rw [exec_clearLockout hs hb, serveClearLockout_eq, requestState_recordOf]
  refine ⟨_, rfl, fun hl hm ha => ?lockout, fun hl hm => ?disabled, fun hl => ?clear⟩
  case lockout =>
    rw [clearLockoutRecord_lockout hl hm ha, stateBody_eq hb, requestState_failingChecks]
    obtain ⟨hf, ht⟩ := finishCommit_requestState (dt := dt) (kind := 0x13) (tag := tag) (c := c)
      (r := { recordOf s c with
        mode := .qualify (failingChecks s c { recordOf s c with latch := false, tripList := [] })
        latch := false, tripList := [] }) (body := [b, 0x01]) hs.running
    exact ⟨_, ht, failingChecks_set (r := { recordOf s c with latch := false, tripList := [] }) rfl, hf⟩
  case disabled =>
    have hc : stateCode (modeState (recordOf s c).mode) = 0 := by rw [hm]; rfl
    rw [clearLockoutRecord_disabled hl hm, hc, stateBody_eq hb]
    obtain ⟨hf, ht⟩ := finishCommit_requestState (dt := dt) (kind := 0x13) (tag := tag) (c := c)
      (r := { recordOf s c with latch := false, tripList := [] }) (body := [b, 0x00]) hs.running
    exact ⟨ht, hf⟩
  case clear =>
    rw [clearLockoutRecord_clear hl, stateBody_eq hb, ← requestState_recordOf (dt := dt) (kind := 0x13) (tag := tag),
      commitChain_self]
    exact answer_unchanged hs.running fun _ => rfl

end Sys2Proof.Machine
end

section
/-! PROOFS. Resets, start-up and the invariants at reset. -/

namespace Sys2Proof.Machine

/-! ## What a reset leaves -/

/-- In the phase to which a reset leads no word stands on the level bus: it is held, or start-up has just begun and the
zeroing has not (R144). -/
theorem busLines_idle {s : State}
    (h : s.phase = .held ∨ s.phase = .unpowered ∨ s.phase = .startUp s.time) (k : Fin 6) :
    busLines s k = ⟨true, false⟩ := by
  have hw : busWord s = none := by
    unfold busWord
    obtain h | h | h := h <;> simp only [h]
    rw [if_neg]
    unfold zeroingStart Config.zeroingDelay
    omega
  unfold busLines
  rw [hw]
  rfl

/-- A reset keeps the array and what is pending, and asserts the lines. -/
theorem enterReset_frame {phase : Phase} {s : State}
    (h : phase = .held ∨ phase = .unpowered ∨ phase = .startUp s.time) : ResetFrame s (enterReset phase s) :=
  ⟨busLines_idle h, rfl, rfl, rfl, rfl, rfl⟩

/-- A reset keeps each trip list and leaves the chain in DISABLED with A 0 (R5; assumption 6). -/
theorem enterReset_recordOf (phase : Phase) (s : State) (c : ChainNo) :
    recordOf (enterReset phase s) c = startRecord builtInProfile c (recordOf s c).tripList false := by
  simp [enterReset, recordOf, startChain]

theorem startLevelBus_pending (c : ChainNo) : startLevelBus.pending.get c = none := Quad.get_fill _ _

/-- The frame of a reset sees nothing of the lines in, nor of the time. -/
theorem ResetFrame.of_before {s s1 t : State} (h : ResetFrame s1 t) (hn : s1.nv = s.nv) (ha : s1.array = s.array)
    (hp : s1.pending = s.pending) : ResetFrame s t :=
  ⟨h.bus, h.lines, by rw [h.array, hn, ha], h.nv, h.handed, by rw [h.pending, hp]⟩

/-- Settles O3: both causes enter a reset, with RST_N low or as it stands. -/
theorem warmResetKeeps : Obligations.WarmResetKeeps := by
  intro dt cause s h
  have hk : ∀ (phase : Phase) (s1 : State) (c : ChainNo), recordOf s1 c = recordOf s c →
      (recordOf (enterReset phase s1) c).tripList = (recordOf s c).tripList
        ∧ (recordOf (enterReset phase s1) c).mode = .disabled none
        ∧ (recordOf (enterReset phase s1) c).applied = 0 := by
    intro phase s1 c hr
    rw [enterReset_recordOf, hr]
    exact ⟨rfl, rfl, rfl⟩
  obtain ⟨rfl, hp⟩ | ⟨rfl, hp⟩ := h
  · have he : exec (.warmReset dt .rstLow) s
        = .next (enterReset .held { elapse dt s with pins := { s.pins with rstN := false } }) := by
      show Host.Outcome.next (fallRstN (elapse dt s)) = _
      unfold fallRstN
      exact congrArg Host.Outcome.next (if_neg hp)
    exact ⟨_, he, (enterReset_frame (Or.inl rfl)).of_before rfl rfl rfl, rfl, fun c => hk _ _ c rfl, rfl, rfl, rfl, rfl,
      rfl, rfl, rfl, rfl, rfl, startLevelBus_pending, rfl, rfl⟩
  · have he : exec (.warmReset dt .requested) s
        = .next (enterReset (phaseAfterReset s.pins.rstN (s.time + dt)) (elapse dt s)) := by
      show Host.Outcome.next (resetByRequest (elapse dt s)) = _
      exact congrArg Host.Outcome.next (if_pos hp)
    have hq : phaseAfterReset s.pins.rstN (s.time + dt) = .held
        ∨ phaseAfterReset s.pins.rstN (s.time + dt) = .unpowered
        ∨ phaseAfterReset s.pins.rstN (s.time + dt) = .startUp (elapse dt s).time := by
      cases s.pins.rstN
      · exact Or.inl rfl
      · exact Or.inr (Or.inr rfl)
    exact ⟨_, he, (enterReset_frame hq).of_before rfl rfl rfl, rfl, fun c => hk _ _ c rfl, rfl, rfl, rfl, rfl,
      rfl, rfl, rfl, rfl, rfl, startLevelBus_pending, rfl, rfl⟩

/-! ## The end of start-up -/

/-- Start-up ends once the zeroing has. -/
theorem exec_startUpEnd {dt began : Nat} {s : State} (hp : s.phase = .startUp began)
    (ht : began + Config.zeroingDelay + 48 ≤ s.time + dt) :
    exec (.startUpEnd dt) s = .next (finish (placeChains (startBlocks (elapse dt s)))) := by
  have he : (elapse dt s).phase = .startUp began := hp
  have hz : zeroingStart began + zeroingMicros ≤ (elapse dt s).time := ht
  show Host.Outcome.next (endStartUp (elapse dt s)) = _
  simp only [endStartUp, he, if_pos hz]

/-- What placing the chains changes: the chains, the alarm reasons and the NV Controller. -/
theorem placeChains_frame (s : State) :
    placeChains s = { s with
      chains := (placed s).chains, alarms := (placed s).alarms, nv := (placeChains s).nv } := by
  rw [placeChains_eq]
  split
  · rfl
  · rw [requestLockoutWrite_frame]
    rfl

theorem placeChains_latches (s : State) : latchesOf (placeChains s) = latchesOf (placed s) := by
  rw [placeChains_frame]
  rfl

/-- One write of the latches starts where placing set one (R118; assumption 9). -/
theorem placeChains_nv {s : State} (h : s.nv = idleNv) :
    (placeChains s).nv = { idleNv with
      inProgress := if latchesOf (placeChains s) = latchesOf s then none
        else some ⟨.lockout (latchesOf (placeChains s)), s.time⟩ } := by
  rw [placeChains_latches, placeChains_eq]
  split
  · exact h
  · have hn : (placed s).nv = idleNv := h
    rw [requestLockoutWrite_nv, hn]
    rfl

theorem startBlocks_latches (s : State) : latchesOf (startBlocks s) = foundLatches s.array := by
  refine Quad.ext_get fun c => ?_
  have h : (latchesOf (startBlocks s)).get c = (recordOf (startBlocks s) c).latch := Quad.get_map _ _ _
  rw [h, startBlocks_recordOf, startRecord_latch]

/-- What placing a chain in DISABLED makes of its record (R25): its state and latch, by the latch found, the fault of
the lockout record, the auto-start mask and the weight sum. -/
theorem placeChain_form {s : State} {c : ChainNo} (hm : (recordOf s c).mode = .disabled none) :
    ∃ mode latch, placeChain s c = { recordOf s c with mode := mode, latch := latch }
      ∧ if (recordOf s c).latch then mode = .lockout ∧ latch = true
        else if s.alarms.lockoutRecordFault then mode = .disabled none ∧ latch = false
        else if inSet (profileOf s c).autoStart c then
          if (profileOf s c).lockoutLimit ≤ weightSum (recordOf s c).tripList then mode = .lockout ∧ latch = true
          else latch = false ∧ mode = .qualify (failingChecks s c (recordOf s c)) ∧ (recordOf s c).latch = false
        else mode = .disabled none ∧ latch = false := by
  unfold placeChain
  extract_lets r
  split
  · next hl => exact ⟨_, r.latch, rfl, rfl, hl⟩
  · next hl =>
    have hl : r.latch = false := by simpa using hl
    split
    · exact ⟨_, _, rfl, hm, hl⟩
    · split
      · split
        · exact ⟨_, _, rfl, rfl, rfl⟩
        · exact ⟨_, _, rfl, hl, rfl, hl⟩
      · exact ⟨_, _, rfl, hm, hl⟩

section StartUp

variable {s : State} {c : ChainNo}

theorem startBlocks_profileOf :
    profileOf (startBlocks s) c = designatedProfile s.array (chosenDesignation s.array) := by
  simp [startBlocks, profileOf, startChain]

/-- A chain's Supervisor after start-up: the record placed, nothing waiting, the chosen profile. -/
theorem startUp_chain :
    (finish (placeChains (startBlocks s))).chains.get c
      = { record := placeChain (startBlocks s) c, inbox := emptyInbox
          profile := designatedProfile s.array (chosenDesignation s.array) } := by
  rw [finish_chains, placeChains_frame]
  simp [placed, startBlocks, startChain]

theorem startUp_recordOf : recordOf (finish (placeChains (startBlocks s))) c = placeChain (startBlocks s) c :=
  congrArg Chain.record startUp_chain

theorem startUp_time : (finish (placeChains (startBlocks s))).time = s.time := by
  rw [finish_time, placeChains_frame]
  rfl

theorem startUp_siteClock : siteClock (finish (placeChains (startBlocks s))) = siteClock s := by
  unfold siteClock
  rw [startUp_time]

/-- Where the lockout record was found invalid, every chain stands in DISABLED; else the latches decide, then the
auto-start mask and the weight sum (R25). -/
theorem startUp_placement :
    ∃ mode latch, placeChain (startBlocks s) c = { recordOf (startBlocks s) c with mode := mode, latch := latch }
      ∧ (lockoutContent s.array.lockout = none → mode = .disabled none ∧ latch = false)
      ∧ ∀ latches, lockoutContent s.array.lockout = some latches →
        if latches.get c then mode = .lockout ∧ latch = true
        else if inSet (designatedProfile s.array (chosenDesignation s.array)).autoStart c then
          if (designatedProfile s.array (chosenDesignation s.array)).lockoutLimit
              ≤ weightSum (recordOf (startBlocks s) c).tripList then mode = .lockout ∧ latch = true
          else latch = false ∧ mode = .qualify (failingChecks (startBlocks s) c (recordOf (startBlocks s) c))
            ∧ (recordOf (startBlocks s) c).latch = false
        else mode = .disabled none ∧ latch = false := by
  obtain ⟨mode, latch, hplace, hcase⟩ := placeChain_form (s := startBlocks s) (c := c)
    (by rw [startBlocks_recordOf]; rfl)
  have hlatch : (recordOf (startBlocks s) c).latch = (foundLatches s.array).get c := by
    rw [startBlocks_recordOf, startRecord_latch]
  have hfault : (startBlocks s).alarms.lockoutRecordFault = (lockoutContent s.array.lockout).isNone := rfl
  refine ⟨mode, latch, hplace, fun h => ?_, fun latches h => ?_⟩
  · simpa [hlatch, hfault, foundLatches, h] using hcase
  · simpa only [hlatch, hfault, foundLatches, h, Option.getD_some, Option.isNone_some, Bool.false_eq_true, if_false,
      startBlocks_profileOf] using hcase

/-- The checks that fail as start-up places a chain are those that fail in the part it leaves. -/
theorem startUp_failingSet (hl : (recordOf (startBlocks s) c).latch = false) :
    FailingSet (finish (placeChains (startBlocks s))) c none false
      (failingChecks (startBlocks s) c (recordOf (startBlocks s) c)) := by
  have hset := failingChecks_set (s := startBlocks s) (c := c) (r := recordOf (startBlocks s) c) rfl
  have hr : (recordOf (startBlocks s) c).readings = none := by
    rw [startBlocks_recordOf]
    rfl
  obtain ⟨mode, latch, hplace, -⟩ := startUp_placement (s := s) (c := c)
  rw [hl, hr] at hset
  have hf := placeChains_frame (startBlocks s)
  exact hset.congr ((congrArg Chain.profile startUp_chain).trans startBlocks_profileOf.symm)
    (by rw [finish_intake, hf]) (by rw [finish_pins, hf]) (by rw [finish_site, hf])
    (by rw [startUp_recordOf, hplace])

end StartUp

/-- Settles O5: the record of Table 1-3, where R25 places each chain, and the one write. -/
theorem startUpPlacesChains : Obligations.StartUpPlacesChains := by
  intro dt began s hp ht
  have hf := placeChains_frame (startBlocks (elapse dt s))
  refine ⟨_, exec_startUpEnd hp ht, ?phase, startUp_time, ?pending, ?nv, fun c => ?chain⟩
  case phase =>
    rw [finish_phase, hf]
    rfl
  case pending =>
    rw [finish_pending, hf]
    rfl
  case nv =>
    rw [finish_nv, placeChains_nv rfl, finish_latches, startUp_time, startBlocks_latches]
    rfl
  case chain =>
    obtain ⟨mode, latch, hplace, hnone, hsome⟩ := startUp_placement (s := elapse dt s) (c := c)
    have hset := startUp_failingSet (s := elapse dt s) (c := c)
    rw [startBlocks_recordOf] at hplace
    refine ⟨mode, latch, _, rfl, _, rfl, ?_, ?_, ?_⟩
    · rw [startUp_chain, startUp_recordOf, hplace, startUp_siteClock]
      rfl
    · rw [startUp_recordOf, hplace]
      rfl
    · have hlist : (recordOf (startBlocks (elapse dt s)) c).tripList = (recordOf s c).tripList.filter fun e =>
          decide ((siteClock (elapse dt s) - e.tripTime).toNat
            < (designatedProfile s.array (chosenDesignation s.array)).tripWindow * 1000) := by
        rw [startBlocks_recordOf]
        rfl
      rw [startUp_siteClock]
      cases hlc : lockoutContent s.array.lockout with
      | none => exact hnone hlc
      | some latches =>
        have h := hsome latches hlc
        rw [hlist, elapse_array] at h
        dsimp only
        split_ifs at h ⊢
        · exact h
        · exact h
        · obtain ⟨hl, hm, hclear⟩ := h
          exact ⟨hl, _, hm, hset hclear⟩
        · exact h

/-! ## The state after reset -/

theorem reset_recordOf (c : ChainNo) :
    recordOf State.reset c = startRecord builtInProfile c [] false := by
  simp [State.reset, recordOf, startChain]

theorem reset_partSafe : PartSafe State.reset := by
  refine ⟨fun c => ?_, rfl, fun c => ?_, rfl⟩ <;> rw [reset_recordOf]
  · exact startRecord_safe _ _ _ _
  · exact Quad.get_fill _ _

/-- No level waits and none is in flight; every chain's A is the last sent level 0. -/
theorem reset_busSafe : BusSafe State.reset := by
  have hp : ∀ c, State.reset.levelBus.pending.get c = none := startLevelBus_pending
  have hb : ∀ c, busValue State.reset.levelBus c = 0 := fun c => Quad.get_fill _ c
  refine ⟨fun c => ?_, fun c => ?_, fun _ => hp⟩
  · rw [hp, hb, reset_recordOf]
    rfl
  · rw [hp]
    exact nofun

/-- Nothing is written or loaded, and no slot is WRITING. -/
theorem reset_storeSafe : StoreSafe State.reset where
  idle _ := ⟨rfl, rfl, rfl⟩
  one h := nomatch h
  committing _ := ⟨nofun, nofun⟩
  writing k := by
    have h : State.reset.store.slots.get k = .invalid .crc := Trio.get_fill _ k
    rw [h]
    exact ⟨nofun, nofun⟩
  expected _ _ _ _ h := nomatch h

/-- Every block holds the built-in default, and none waits for an activation. -/
theorem reset_profilesSafe : ProfilesSafe State.reset where
  active := Or.inl rfl
  chains c := by
    have hp : profileOf State.reset c = builtInProfile := by simp [State.reset, profileOf, startChain]
    have hb : inboxOf State.reset c = emptyInbox := by simp [State.reset, inboxOf, startChain]
    rw [hp, hb]
    exact ⟨Or.inl rfl, fun _ h => absurd h List.not_mem_nil⟩
  site := ⟨Or.inl rfl, fun _ h => absurd h List.not_mem_nil⟩
  fastMute _ h := absurd h List.not_mem_nil
  tracker _ h := absurd h List.not_mem_nil
  slots k h := by
    have hk : State.reset.store.slots.get k = .invalid .crc := Trio.get_fill _ k
    rw [hk] at h
    cases h
  write _ h := by cases h
  pending _ h := by cases h

theorem reset_tripsSafe : TripsSafe State.reset := by
  intro c
  have h : (recordOf State.reset c).tripList = [] := by
    rw [reset_recordOf]
    rfl
  rw [h]
  exact ⟨Nat.zero_le _, nofun⟩

/-- Settles O55, invariant by invariant. -/
theorem resetMeetsInvariants : Obligations.ResetMeetsInvariants :=
  ⟨reset_partSafe, ⟨Nat.zero_le _, nofun⟩, reset_busSafe, (by decide : 0 < 4), reset_storeSafe, reset_profilesSafe,
    reset_tripsSafe⟩

end Sys2Proof.Machine
end

section
/-! PROOFS. The Measurement Intake: the frames of the sample link, accepted and discarded, and the groups' deadlines. -/

namespace Sys2Proof.Machine

/-! ## Sample frames -/

@[simp] theorem elapse_inSampleFrame (dt : Nat) (s : State) : inSampleFrame (elapse dt s) = inSampleFrame s := rfl

theorem elapse_lastSequence (dt : Nat) (s : State) (g : GroupNo) : lastSequence (elapse dt s) g = lastSequence s g := by
  cases g with
  | chain c => rfl
  | site => rfl

section Frames

variable {dt : Nat} {x : FrameWords} {g : GroupNo} {s : State}

/-- The bits of a frame of one of the five groups end the frame being received (R26, R27). -/
theorem exec_sampleFrame (hp : s.phase = .running) (hin : inSampleFrame s = true) (hg : frameGroup x = some g) :
    exec (.sampleFrame dt (bitsOfWord x.header) (bitsOfWords x.fields) (bitsOfWord x.check)) s
      = .next (endFrame (frameBits x) g x (elapse dt s)) := by
  show Host.Outcome.next (whileRunning (sampleFrameEvent (frameBits x)) (elapse dt s)) = _
  rw [whileRunning_running hp]
  simp only [sampleFrameEvent, elapse_inSampleFrame, hin, if_true, frameWords_bits, hg]

/-- A frame that passes the three tests has no fault (R29). -/
theorem frameFault_none (hc : x.check = checkWord x.header x.fields) (hf : headerFault x.header = false)
    (hl : lastSequence s g ≠ some (headerSequence x.header)) : frameFault s g x = none := by
  simp [frameFault, hc, hf, hl]

/-- A frame that fails one of the three tests is discarded for the first it fails (R29). -/
theorem frameFault_some (h : x.check ≠ checkWord x.header x.fields ∨ headerFault x.header = true
      ∨ lastSequence s g = some (headerSequence x.header)) :
    frameFault s g x = some (if x.check ≠ checkWord x.header x.fields then .check
      else if headerFault x.header then .fault else .duplicate) := by
  unfold frameFault
  by_cases hc : x.check ≠ checkWord x.header x.fields
  · rw [if_pos hc, if_pos hc]
  · rw [if_neg hc, if_neg hc]
    by_cases hf : headerFault x.header = true
    · rw [if_pos hf, if_pos hf]
    · rw [if_neg hf, if_neg hf, if_pos ((h.resolve_left hc).resolve_left hf)]

/-- A frame without a fault is taken by its group (R33). -/
theorem endFrame_accepted (h : frameFault s g x = none) :
    endFrame (frameBits x) g x s
      = acceptFrame g x.header x.fields (setReceiver (.hunting ((bitsOfWord x.check).drop 1)) s) := by
  simp only [endFrame, h, lastBits_frame]

/-- A frame with a fault counts it, and its last bits are held (R29; assumption 25). -/
theorem endFrame_discarded {k : DiscardReason} (h : frameFault s g x = some k) :
    endFrame (frameBits x) g x s = countDiscard k (setReceiver (.hunting ((bitsOfWord x.check).drop 1)) s) := by
  simp only [endFrame, h, lastBits_frame]

/-- A frame that passes the three tests is taken by its group (R29, R33). -/
theorem exec_sampleFrame_accepted (hp : s.phase = .running) (hin : inSampleFrame s = true)
    (hg : frameGroup x = some g) (hc : x.check = checkWord x.header x.fields) (hf : headerFault x.header = false)
    (hl : lastSequence s g ≠ some (headerSequence x.header)) :
    exec (.sampleFrame dt (bitsOfWord x.header) (bitsOfWords x.fields) (bitsOfWord x.check)) s
      = .next (acceptFrame g x.header x.fields
          (setReceiver (.hunting ((bitsOfWord x.check).drop 1)) (elapse dt s))) := by
  rw [← elapse_lastSequence dt] at hl
  rw [exec_sampleFrame hp hin hg, endFrame_accepted (frameFault_none hc hf hl)]

end Frames

/-- Settles O7: the record, the counter and the delivery of `acceptChain` and of `acceptSite`. -/
theorem validFrameIsAccepted : Obligations.ValidFrameIsAccepted := by
  constructor
  case left =>
    intro dt x s c hp hin hg hc hf hl
    exact ⟨_, exec_sampleFrame_accepted hp hin hg hc hf hl, Quad.get_set_same _ _ _,
      fun d hd => Quad.get_set_other _ _ hd, rfl, rfl, rfl, rfl, rfl, Quad.get_set_same _ _ _,
      fun d hd => Quad.get_set_other _ _ hd, rfl⟩
  case right =>
    intro dt x s hp hin hg hc hf hl
    exact ⟨_, exec_sampleFrame_accepted hp hin hg hc hf hl, rfl, rfl, rfl⟩

/-! ## Discards -/

/-- A header of group 5 to 7 names no group (R27). -/
theorem headerGroupNo_none {h : Word16} (hg : 5 ≤ headerGroup h) : headerGroupNo h = none := by
  unfold headerGroupNo
  split
  case h_6 => rfl
  all_goals omega

/-- A header of group 0 to 4 names a group, the site's the one with four fields (R27, Table 2-4). -/
theorem headerGroupNo_fields {h : Word16} (hg : headerGroup h ≤ 4) :
    ∃ g, headerGroupNo h = some g ∧ fieldCount g = if headerGroup h = 4 then 4 else 3 := by
  unfold headerGroupNo
  have hcases : headerGroup h = 0 ∨ headerGroup h = 1 ∨ headerGroup h = 2 ∨ headerGroup h = 3 ∨ headerGroup h = 4 := by
    omega
  obtain hn | hn | hn | hn | hn := hcases <;> rw [hn] <;> exact ⟨_, rfl, rfl⟩

/-- Words without the sync word, no more of them behind the header than its fields, leave their frame unfinished (R28). -/
theorem unfinishedWords_of {ws : List Word16} (hs : syncWord ∉ ws)
    (h : ∀ header rest, ws = header :: rest →
      headerGroup header ≤ 4 ∧ rest.length ≤ (if headerGroup header = 4 then 4 else 3)) :
    unfinishedWords ws = true := by
  cases ws with
  | nil => rfl
  | cons header rest =>
    obtain ⟨hgroup, hlen⟩ := h header rest rfl
    obtain ⟨g, hg, hcount⟩ := headerGroupNo_fields hgroup
    simp [unfinishedWords, hs, hg, hcount, hlen]

/-- A sync word behind the words of an unfinished frame starts a new one (R28). -/
theorem restartsFrame_of {ws : List Word16} (h : unfinishedWords ws = true) :
    restartsFrame (bitsOfWords (ws ++ [syncWord])) = true := by
  simp [restartsFrame, h]

section Discards

variable {dt since quiet : Nat} {header : Word16} {bits : List Bool} {s : State}

/-- A header of group 5 to 7 counts GROUP (R27). -/
theorem exec_groupDiscard (hp : s.phase = .running) (hin : inSampleFrame s = true) (h : 5 ≤ headerGroup header) :
    exec (.groupDiscard dt (bitsOfWord header)) s
      = .next (countDiscard .group (setReceiver (.hunting ((bitsOfWord header).drop 1)) (elapse dt s))) := by
  have hb : lastBits 15 (bitsOfWord header) = (bitsOfWord header).drop 1 := lastBits_word [] header
  show Host.Outcome.next (whileRunning (discardGroup (bitsOfWord header)) (elapse dt s)) = _
  rw [whileRunning_running hp]
  simp [discardGroup, hin, headerGroupNo_none h, hb]

/-- A sync word in an unfinished frame counts SHORT, and the frame it starts is received from then on (R28). -/
theorem exec_shortFrameSync (hp : s.phase = .running) (hr : s.intake.receiver = .inFrame since)
    (h : restartsFrame bits = true) :
    exec (.shortFrameSync ⟨dt, bits⟩) s
      = .next (countDiscard .short (setReceiver (.inFrame (s.time + dt)) (elapse dt s))) := by
  show Host.Outcome.next (whileRunning (restartFrame bits) (elapse dt s)) = _
  rw [whileRunning_running hp]
  simp [restartFrame, inSampleFrame, hr, h]

/-- A silence of 1 ms in an unfinished frame counts SHORT and drops the bits held; a shorter one does nothing (R28). -/
theorem exec_shortFrameTimeout (hp : s.phase = .running) (hr : s.intake.receiver = .inFrame since)
    (h : unfinishedFrame bits = true) (hq : since + quiet ≤ s.time + dt) :
    exec (.shortFrameTimeout ⟨dt, bits, quiet⟩) s
      = .next (if 1000 ≤ quiet then countDiscard .short (setReceiver (.hunting []) (elapse dt s))
          else elapse dt s) := by
  show Host.Outcome.next (whileRunning (timeOutFrame bits quiet) (elapse dt s)) = _
  rw [whileRunning_running hp]
  simp only [timeOutFrame, elapse_intake, elapse_time, hr, h, hq, decide_true, Bool.true_and, Bool.and_true,
    decide_eq_true_eq]
  rfl

end Discards

/-- Settles O8: each discard counts its reason; the receiver hunts on, or starts a frame. -/
theorem discardOnlyCounts : Obligations.DiscardOnlyCounts := by
  refine ⟨?completed, ?group, ?short⟩
  case completed =>
    intro dt x s g hp hin hg h
    rw [← elapse_lastSequence dt] at h
    rw [exec_sampleFrame hp hin hg, endFrame_discarded (frameFault_some h)]
    split_ifs <;> rfl
  case group =>
    intro dt header s hp hin h
    exact exec_groupDiscard hp hin h
  case short =>
    intro dt since ws s hp hr hs hw
    have hu : unfinishedWords ws = true := unfinishedWords_of hs hw
    refine ⟨exec_shortFrameSync hp hr (restartsFrame_of hu), fun part quiet hpart hquiet => ?_⟩
    have hf : unfinishedFrame (bitsOfWords ws ++ part) = true := by
      rw [unfinishedFrame, wordsOf_bits ws part hpart]
      exact hu
    rw [exec_shortFrameTimeout hp hr hf hquiet]
    split_ifs <;> rfl

/-! ## Freshness -/

section Deadlines

variable {dt : Nat} {due : Word32} {g : GroupNo} {s : State}

theorem exec_staleDeadline (hp : s.phase = .running) :
    exec (.staleDeadline dt g) s = .next (reachStale g (elapse dt s)) :=
  congrArg Host.Outcome.next (whileRunning_running hp dt)

theorem exec_lostDeadline (hp : s.phase = .running) :
    exec (.lostDeadline dt g) s = .next (reachLost g (elapse dt s)) :=
  congrArg Host.Outcome.next (whileRunning_running hp dt)

theorem staleDue_reached {ρ : Type} {now : Word32} {x : GroupRecord ρ} (hr : reached now due = true)
    (hf : x.freshness = .fresh) (hd : x.staleDeadline = some due) : staleDue now x = true := by
  simp [staleDue, hf, hd, hr]

theorem lostDue_reached {ρ : Type} {now : Word32} {x : GroupRecord ρ} (hr : reached now due = true)
    (hf : x.freshness = .stale) (hd : x.lostDeadline = some due) : lostDue now x = some due := by
  simp [lostDue, hf, hd, hr]

end Deadlines

/-- Settles O10: a deadline reached is due, and the group and its owner's inbox change. -/
theorem deadlinesAgeGroups : Obligations.DeadlinesAgeGroups := by
  intro dt s due hp hr
  refine ⟨fun c hf hd => ?_, fun c hf hd => ?_, fun hf hd => ?_, fun hf hd => ?_⟩
  · have hdue : staleDue (siteClock (elapse dt s)) ((elapse dt s).intake.chainGroup.get c) = true :=
      staleDue_reached hr hf hd
    refine ⟨_, exec_staleDeadline hp, ?_⟩
    rw [reachStale, if_pos hdue]
    exact ⟨rfl, rfl, rfl⟩
  · have hdue : lostDue (siteClock (elapse dt s)) ((elapse dt s).intake.chainGroup.get c) = some due :=
      lostDue_reached hr hf hd
    refine ⟨_, exec_lostDeadline hp, ?_⟩
    simp only [reachLost, hdue]
    exact ⟨rfl, rfl, rfl⟩
  · have hdue : staleDue (siteClock (elapse dt s)) (elapse dt s).intake.siteGroup = true := staleDue_reached hr hf hd
    rw [exec_staleDeadline hp, reachStale, if_pos hdue]
    rfl
  · have hdue : lostDue (siteClock (elapse dt s)) (elapse dt s).intake.siteGroup = some due := lostDue_reached hr hf hd
    rw [exec_lostDeadline hp]
    simp only [reachLost, hdue]
    rfl

end Sys2Proof.Machine
end

section
/-! PROOFS. Coolant flow: the filters and gates of the Intake, and the flow gate results a chain takes. -/

namespace Sys2Proof.Machine

/-! ## Filters and gates -/

section Flow

variable {dt : Nat} {c : ChainNo} {s : State}

/-- An edge restarts the time the filter has spent at the level (R40). -/
theorem exec_flowLineEdge {high : Bool} (hp : s.phase = .running) (h : s.pins.flows.get c ≠ high) :
    exec (.flowLineEdge dt c high) s
      = .next (setFlowFilter c { (s.intake.flow.get c).filter with since := s.time + dt }
          { elapse dt s with pins := { s.pins with flows := s.pins.flows.set c high } }) := by
  show Host.Outcome.next (edgeFlow c high (elapse dt s)) = _
  exact congrArg Host.Outcome.next ((if_neg h).trans (if_pos hp))

/-- A line 20 µs high since an accepted rise qualifies a pulse (R40). -/
theorem exec_flowPulseQualify (hp : s.phase = .running) (hh : s.pins.flows.get c = true)
    (ha : (s.intake.flow.get c).filter.armed = true) (ht : (s.intake.flow.get c).filter.since + 20 ≤ s.time + dt) :
    exec (.flowPulseQualify dt c) s
      = .next (setFlow c { s.intake.flow.get c with
          count := (s.intake.flow.get c).count + 1
          filter := { (s.intake.flow.get c).filter with high := true, armed := false } } (elapse dt s)) := by
  show Host.Outcome.next (whileRunning (qualifyFlow c) (elapse dt s)) = _
  rw [whileRunning_running hp]
  simp [qualifyFlow, flowMicros, hh, ha, ht]

/-- A line 20 µs low since its pulse arms its filter again (R40). -/
theorem exec_flowFilterRearm (hp : s.phase = .running) (hl : s.pins.flows.get c = false)
    (ha : (s.intake.flow.get c).filter.armed = false) (ht : (s.intake.flow.get c).filter.since + 20 ≤ s.time + dt) :
    exec (.flowFilterRearm dt c) s
      = .next (setFlowFilter c { (s.intake.flow.get c).filter with high := false, armed := true } (elapse dt s)) := by
  show Host.Outcome.next (whileRunning (rearmFlow c) (elapse dt s)) = _
  rw [whileRunning_running hp]
  simp [rearmFlow, flowMicros, hl, ha, ht]

/-- The gates of the four chains end together (R41). -/
theorem exec_gateEnd (hp : s.phase = .running) (h : s.intake.gateDue ≤ s.time + dt) :
    exec (.gateEnd dt) s = .next { s with
      time := s.time + dt
      intake := { s.intake with
        flow := s.intake.flow.map (gateCounter s.store.active), gateDue := s.intake.gateDue + 250000 }
      chains := Quad.ofFn fun c => { s.chains.get c with
        inbox := { inboxOf s c with
          flow := (inboxOf s c).flow ++
            [gateResult s.store.active ((s.intake.flow.map (gateCounter s.store.active)).get c)] } } } := by
  show Host.Outcome.next (whileRunning endGate (elapse dt s)) = _
  rw [whileRunning_running hp, endGate]
  exact congrArg Host.Outcome.next (if_pos h)

end Flow

/-- Settles O11: the filter's three events, and the counter sets and deliveries of a gate end. -/
theorem flowIsCountedAndRated : Obligations.FlowIsCountedAndRated := by
  refine ⟨fun dt c s hp => ⟨fun high h => ?edge, fun hh ha ht => ?qualify, fun hl ha ht => ?rearm⟩,
    fun dt s hp h => ?gate⟩
  case edge => exact ⟨_, exec_flowLineEdge hp h, rfl, rfl, rfl⟩
  case qualify => exact exec_flowPulseQualify hp hh ha ht
  case rearm => exact exec_flowFilterRearm hp hl ha ht
  case gate =>
    refine ⟨_, exec_gateEnd hp h, fun c => ?_, rfl, rfl⟩
    dsimp only
    rw [Quad.get_map, Quad.get_ofFn, Quad.get_map]
    exact ⟨rfl, rfl, rfl, rfl, rfl⟩

/-! ## Flow gate results at a chain -/

section Results

variable {dt : Nat} {c : ChainNo} {x : FlowResult} {rest : List FlowResult} {b : ChainInbox} {s : State}

theorem exec_flowGateResult (hp : s.phase = .running) (h : (inboxOf s c).flow = x :: rest) :
    exec (.flowGateResult dt c) s
      = .next (finish (takeFlowResult c x (setInbox c { inboxOf s c with flow := rest } (elapse dt s)))) := by
  show Host.Outcome.next (whileRunning (flowResultEvent c) (elapse dt s)) = _
  rw [whileRunning_running hp]
  simp only [flowResultEvent, elapse_inboxOf, h]

/-- In RAMP and ACTIVE a result at the dwell trips FLOW_LOSS, with the rate it brings (R42). -/
theorem takeFlowResult_trips {run : RunState} (hm : runState (recordOf s c).mode = some run)
    (hd : x.atDwell = true) :
    takeFlowResult c x (setInbox c b (elapse dt s))
      = slowTrip c .flowLoss (siteClock (elapse dt s)) run (recordOf s c).applied
          { recordOf s c with flowRate := x.rate } (setInbox c b (elapse dt s)) := by
  simp only [takeFlowResult, setInbox_recordOf, elapse_recordOf, hm, hd, if_true]
  rfl

/-- A result below the dwell, or at a chain in another state, changes the flow rate alone (R42). -/
theorem takeFlowResult_copies (h : runState (recordOf s c).mode = none ∨ x.atDwell = false) :
    takeFlowResult c x (setInbox c b (elapse dt s))
      = commitChain c { recordOf s c with flowRate := x.rate } (setInbox c b (elapse dt s)) := by
  simp only [takeFlowResult, setInbox_recordOf, elapse_recordOf]
  split
  · next hm => simp [h.resolve_left (by simp [hm])]
  · rfl

end Results

/-- Settles O12: the trip at the dwell in RAMP and ACTIVE, and the rate alone elsewhere. -/
theorem flowLossTripsRunningChain : Obligations.FlowLossTripsRunningChain := by
  intro dt c x rest s hp hin
  refine ⟨_, exec_flowGateResult hp hin, ?_⟩
  obtain ⟨hcf, hcn⟩ := finishCommit_event (dt := dt) (c := c) (b := { inboxOf s c with flow := rest })
    (r := { recordOf s c with flowRate := x.rate }) hp rfl
  cases hd : x.atDwell with
  | false =>
    rw [takeFlowResult_copies (Or.inr hd)]
    exact ⟨hcn, hcf⟩
  | true =>
    cases hm : runState (recordOf s c).mode with
    | none =>
      rw [takeFlowResult_copies (Or.inl hm)]
      exact ⟨hcn, hcf⟩
    | some run =>
      rw [takeFlowResult_trips hm hd]
      obtain ⟨hf, hn⟩ := finishSlowTrip_event (dt := dt) (c := c) (b := { inboxOf s c with flow := rest })
        (cause := .flowLoss) (k := .thermal) (tripTime := siteClock (elapse dt s)) (run := run)
        (a := (recordOf s c).applied) (r := { recordOf s c with flowRate := x.rate }) hp rfl rfl
      have hw : weightSum ((recordOf s c).tripList ++ [⟨siteClock (elapse dt s), .flowLoss⟩])
          = weightSum (recordOf s c).tripList + 1 := weightSum_append _ _
      refine ⟨hn, ?_, inhibit_asserted hf rfl⟩
      rw [← hw]
      exact hf

end Sys2Proof.Machine
end

section
/-! PROOFS. The receivers of the sample link and of the control link, and the frames a request's commands carry. -/

namespace Sys2Proof.Machine

/-! ## The sample receiver -/

section SampleReceiver

variable {dt : Nat} {held bits : List Bool} {s : State}

/-- Bits whose last completes the sync word take the receiver IN FRAME (R26). -/
theorem exec_syncWordMatch_matched (hp : s.phase = .running) (hr : s.intake.receiver = .hunting held)
    (h : huntBits held bits = .matched []) :
    exec (.syncWordMatch ⟨dt, bits⟩) s = .next (setReceiver (.inFrame (s.time + dt)) (elapse dt s)) := by
  show Host.Outcome.next (whileRunning (matchSync bits) (elapse dt s)) = _
  rw [whileRunning_running hp]
  simp only [matchSync, elapse_intake, elapse_time, hr, h]

/-- Bits that complete no sync word leave the receiver HUNTING (R26). -/
theorem exec_syncWordMatch_searching {still : List Bool} (hp : s.phase = .running)
    (hr : s.intake.receiver = .hunting held) (h : huntBits held bits = .searching still) :
    exec (.syncWordMatch ⟨dt, bits⟩) s = .next (setReceiver (.hunting still) (elapse dt s)) := by
  show Host.Outcome.next (whileRunning (matchSync bits) (elapse dt s)) = _
  rw [whileRunning_running hp]
  simp only [matchSync, elapse_intake, hr, h]

end SampleReceiver

/-! ## The control receiver -/

section LinkReceiver

variable {dt since quiet : Nat} {skipped frame : List Byte} {character : List Bool} {s : State}

/-- A receiver that is not IN FRAME is HUNTING. -/
theorem setLinkReceiver_hunting (h : inLinkFrame s = false) : setLinkReceiver .hunting s = s := by
  have hr : s.link.receiver = .hunting := by
    unfold inLinkFrame at h
    split at h
    · cases h
    · next hr => exact hr
  unfold setLinkReceiver
  rw [← hr]

/-- The start byte takes a HUNTING receiver IN FRAME (R165). -/
theorem exec_controlStartByte (hp : s.phase = .running) (hr : s.link.receiver = .hunting) (h : startByte ∉ skipped) :
    exec (.controlStartByte ⟨dt, skipped⟩) s = .next (setLinkReceiver (.inFrame (s.time + dt)) (elapse dt s)) := by
  show Host.Outcome.next (whileRunning (startFrame skipped) (elapse dt s)) = _
  rw [whileRunning_running hp]
  simp [startFrame, inLinkFrame, hr, h]

/-- A low stop bit takes the receiver to HUNTING (R164). -/
theorem exec_framingError (hp : s.phase = .running) (h : framingFault character = true) :
    exec (.framingError ⟨dt, character⟩) s = .next (setLinkReceiver .hunting (elapse dt s)) := by
  show Host.Outcome.next (whileRunning (framingErrorEvent character) (elapse dt s)) = _
  rw [whileRunning_running hp, framingErrorEvent, if_pos h]

/-- A bad frame leaves the receiver HUNTING, whether it was being received or not (R165). -/
theorem exec_controlFrameDiscard (hp : s.phase = .running) (h : badFrame frame = true) :
    exec (.controlFrameDiscard ⟨dt, frame⟩) s = .next (setLinkReceiver .hunting (elapse dt s)) := by
  show Host.Outcome.next (whileRunning (discardFrame frame) (elapse dt s)) = _
  rw [whileRunning_running hp]
  cases hin : inLinkFrame (elapse dt s) with
  | true => simp [discardFrame, hin, h]
  | false => simp [discardFrame, hin, setLinkReceiver_hunting hin]

/-- More than 5 ms without a byte discard the unfinished frame being received (R165). -/
theorem exec_controlFrameGapTimeout (hp : s.phase = .running) (hr : s.link.receiver = .inFrame since)
    (hq : since + quiet ≤ s.time + dt) (h : unfinishedBytes frame = true) :
    exec (.controlFrameGapTimeout ⟨dt, frame, quiet⟩) s
      = .next (setLinkReceiver (if 5000 < quiet then .hunting else .inFrame since) (elapse dt s)) := by
  show Host.Outcome.next (whileRunning (gapEvent frame quiet) (elapse dt s)) = _
  rw [whileRunning_running hp]
  simp only [gapEvent, elapse_link, elapse_time, hr, h, hq, decide_true, Bool.true_and, Bool.and_true,
    decide_eq_true_eq]
  by_cases hlong : 5000 < quiet
  · rw [if_pos hlong]
    exact congrArg Host.Outcome.next (if_pos hlong)
  · rw [if_neg hlong, ← hr]
    exact congrArg Host.Outcome.next (if_neg hlong)

end LinkReceiver

/-! ## Bad and unfinished frames -/

/-- Ten bits, the start bit and the stop bit low, are a framing error (R164). -/
theorem framingFault_of {data : List Bool} (h : data.length = 8) : framingFault (false :: data ++ [false]) = true := by
  rw [framingFault, List.getLast?_concat]
  simp [h]

/-- A length byte below 2 or above 250 is bad at once (R165). -/
theorem badFrame_length {n : Byte} (h : n.toNat < 2 ∨ 250 < n.toNat) : badFrame [n] = true := by
  simp only [badFrame, lengthGood, Bool.not_eq_true', Bool.and_eq_false_iff, decide_eq_false_iff_not]
  omega

/-- Two bytes that are a word's are its value, high byte first. -/
theorem value_of_bytes16 {c1 c2 : Byte} {w : Word16} (h : [c1, c2] = bytes16 w.toNat) :
    256 * c1.toNat + c2.toNat = w.toNat := by
  simp only [bytes16, List.cons.injEq, and_true] at h
  obtain ⟨rfl, rfl⟩ := h
  rw [BitVec.toNat_ofNat, BitVec.toNat_ofNat]
  omega

/-- A complete frame whose last two bytes are not its CRC is bad (R165). -/
theorem badFrame_crc {n c1 c2 : Byte} {inner : List Byte} (h2 : 2 ≤ n.toNat) (h250 : n.toNat ≤ 250)
    (hl : inner.length = n.toNat) (hc : 256 * c1.toNat + c2.toNat ≠ (crc16 (n :: inner)).toNat) :
    badFrame (n :: inner ++ [c1, c2]) = true := by
  have hcomplete : frameComplete (n :: inner ++ [c1, c2]) = true := by
    simp [frameComplete, lengthGood, h2, h250, hl]
  have hlen : (n :: inner ++ [c1, c2]).length - 2 = (n :: inner).length := by simp
  have hcrc : frameCrcGood (n :: inner ++ [c1, c2]) = false := by
    rw [frameCrcGood, hlen, List.drop_left, List.take_left]
    exact decide_eq_false fun h => hc (value_of_bytes16 h)
  unfold badFrame
  split
  · next heq => simp at heq
  · rw [hcomplete, hcrc]
    rfl

/-- Bytes with a good length byte, fewer after it than it and the CRC ask for, leave their frame unfinished (R165). -/
theorem unfinishedBytes_of {frame : List Byte}
    (h : ∀ n rest, frame = n :: rest → 2 ≤ n.toNat ∧ n.toNat ≤ 250 ∧ rest.length < n.toNat + 2) :
    unfinishedBytes frame = true := by
  cases frame with
  | nil => rfl
  | cons n rest =>
    obtain ⟨h2, h250, hlen⟩ := h n rest rfl
    simp [unfinishedBytes, lengthGood, h2, h250, hlen]

/-! ## A request's command -/

/-- Each of the 19 requests is taken from its frame's bytes joined, by its kind and its body's length (Table 10-2). -/
theorem exec_request {row : (Nat → List Byte → List Byte → Instr) × Byte × Nat} (h : row ∈ requestTable) :
    ∃ serve, ∀ dt inner crc s, exec (row.1 dt inner crc) s
      = .next (whileRunning (takeRequest row.2.1 row.2.2 serve (inner ++ crc)) (elapse dt s)) := by
  simp only [requestTable, List.mem_cons, List.not_mem_nil, or_false] at h
  obtain rfl | rfl | rfl | rfl | rfl | rfl | rfl | rfl | rfl | rfl | rfl | rfl | rfl | rfl | rfl | rfl | rfl | rfl
    | rfl := h <;> exact ⟨_, fun _ _ _ _ => rfl⟩

/-- Bytes that read as no good frame are no request (R165). -/
theorem takeRequest_unread {kind : Byte} {n : Nat} {serve : List Byte → State → State × Answer} {frame : List Byte}
    (h : readFrame frame = none) (s : State) : takeRequest kind n serve frame s = s := by
  simp only [takeRequest, h]

/-- Settles O9: each receiver's match and discards, and the bytes of the commands read joined. -/
theorem receiversHuntAndFrame : Obligations.ReceiversHuntAndFrame := by
  intro dt s hp
  refine ⟨fun held bits hr hne => ⟨fun h => ?matched, fun h => ?searching⟩, fun skipped hr h => ?start,
    fun data h => ?framing, fun n h => ?length, fun n c1 c2 inner h2 h250 hl hc => ?crc,
    fun since quiet frame hr hq h => ?gap, fun row hrow inner crc h => ?unread, fun row hrow inner crc => ?joined,
    fun head body crc => ?strange, fun header fields check => ?sample⟩
  case matched =>
    exact exec_syncWordMatch_matched hp hr (huntBits_match hne fun n hn hn0 => h n hn0 hn)
  case searching =>
    exact exec_syncWordMatch_searching hp hr (huntBits_none (fun h0 => absurd h0 hne) fun n hn hn0 => h n hn0 hn)
  case start => exact exec_controlStartByte hp hr h
  case framing => exact exec_framingError hp (framingFault_of h)
  case length => exact exec_controlFrameDiscard hp (badFrame_length h)
  case crc => exact exec_controlFrameDiscard hp (badFrame_crc h2 h250 hl hc)
  case gap => exact exec_controlFrameGapTimeout hp hr hq (unfinishedBytes_of h)
  case unread =>
    obtain ⟨serve, hexec⟩ := exec_request hrow
    rw [hexec, whileRunning_running hp, takeRequest_unread h]
    rfl
  case joined =>
    obtain ⟨serve, hexec⟩ := exec_request hrow
    rw [hexec, hexec, List.append_nil]
  case strange =>
    constructor
    · show Host.Outcome.next (whileRunning (takeUnknown (head ++ body ++ crc)) (elapse dt s))
        = .next (whileRunning (takeUnknown (head ++ body ++ crc ++ [] ++ [])) (elapse dt s))
      rw [List.append_nil, List.append_nil]
    · show Host.Outcome.next (whileRunning (takeOverlap (head ++ body ++ crc)) (elapse dt s))
        = .next (whileRunning (takeOverlap (head ++ body ++ crc ++ [] ++ [])) (elapse dt s))
      rw [List.append_nil, List.append_nil]
  case sample =>
    show Host.Outcome.next (whileRunning (sampleFrameEvent (header ++ fields ++ check)) (elapse dt s))
      = .next (whileRunning (sampleFrameEvent (header ++ fields ++ check ++ [] ++ [])) (elapse dt s))
    rw [List.append_nil, List.append_nil]

end Sys2Proof.Machine
end

section
/-! PROOFS. Conditioning of readings, the foldback line, the thermal bands and ceiling, and the limiter. -/

namespace Sys2Proof.Machine

/-! ## Conditioning (R31, R32) -/

theorem conditionUnsigned_value (forced : Bool) (raw : Word16) (top : Nat) :
    (conditionUnsigned forced raw top).value = if forced then top else min raw.toNat top := by
  unfold conditionUnsigned
  split
  · rfl
  · split
    · next h => exact (Nat.min_eq_right h.le).symm
    · next h => exact (Nat.min_eq_left (Nat.not_lt.mp h)).symm

theorem conditionUnsigned_limited (forced : Bool) (raw : Word16) (top : Nat) :
    (conditionUnsigned forced raw top).limited = true ↔ forced = true ∨ top < raw.toNat := by
  unfold conditionUnsigned
  split
  · next hf => simp [hf]
  · next hf => split <;> simp_all

theorem conditionTemperature_value (forced : Bool) (raw : Word16) :
    (conditionTemperature forced raw).value = if forced then 1250 else max (-400) (min 1250 raw.toInt) := by
  unfold conditionTemperature
  split
  · rfl
  · split
    · dsimp only
      omega
    · split <;> dsimp only <;> omega

theorem conditionTemperature_limited (forced : Bool) (raw : Word16) :
    (conditionTemperature forced raw).limited = true ↔ forced = true ∨ raw.toInt < -400 ∨ 1250 < raw.toInt := by
  unfold conditionTemperature
  split
  · next hf => simp [hf]
  · next hf =>
    split
    · next hlow => simp [hlow]
    · next hlow => split <;> simp_all

/-- The numbers of the limited fields are the places, from 1, of the flags that are set. -/
theorem mem_limitedNumbers {flags : List Bool} {n : Nat} :
    n ∈ limitedNumbers flags ↔ 1 ≤ n ∧ flags[n - 1]? = some true := by
  simp [limitedNumbers, List.mem_filterMap, List.mem_zipIdx_iff_le_and_getElem?_sub]

theorem mem_conditionChain_limited (header : Word16) (fields : List Word16) (n : Nat) :
    n ∈ (conditionChain header fields).2 ↔
      n = 1 ∧ (header.getLsbD 11 = true ∨ 20000 < (fields.getD 0 0).toNat)
      ∨ n = 2 ∧ (header.getLsbD 10 = true ∨ 20000 < (fields.getD 1 0).toNat)
      ∨ n = 3 ∧ (header.getLsbD 9 = true ∨ (fields.getD 2 0).toInt < -400 ∨ 1250 < (fields.getD 2 0).toInt) := by
  rw [← conditionUnsigned_limited, ← conditionUnsigned_limited, ← conditionTemperature_limited]
  show n ∈ limitedNumbers _ ↔ _
  rw [mem_limitedNumbers]
  rcases n with _ | _ | _ | _ | n
  all_goals simp [headerOverrange, fieldAt]

theorem mem_conditionSite_limited (header : Word16) (fields : List Word16) (n : Nat) :
    n ∈ (conditionSite header fields).2 ↔
      n = 1 ∧ (header.getLsbD 11 = true ∨ 60000 < (fields.getD 0 0).toNat)
      ∨ n = 2 ∧ (header.getLsbD 10 = true ∨ 60000 < (fields.getD 1 0).toNat)
      ∨ n = 3 ∧ (header.getLsbD 9 = true ∨ (fields.getD 2 0).toInt < -400 ∨ 1250 < (fields.getD 2 0).toInt)
      ∨ n = 4 ∧ (header.getLsbD 8 = true ∨ 2000 < (fields.getD 3 0).toNat) := by
  rw [← conditionUnsigned_limited, ← conditionUnsigned_limited, ← conditionUnsigned_limited,
    ← conditionTemperature_limited]
  show n ∈ limitedNumbers _ ↔ _
  rw [mem_limitedNumbers]
  rcases n with _ | _ | _ | _ | _ | n
  all_goals simp [headerOverrange, fieldAt]

/-! ## The foldback line (R47) -/

section Foldback

variable {x s t : Int} {f : Nat}

theorem foldback_start (h : x ≤ s) : foldback x s t f = 1000 := if_pos h

theorem foldback_trip (hs : s < t) (h : t ≤ x) : foldback x s t f = f := by
  rw [foldback, if_neg (by omega), if_neg (by omega)]

/-- Between start and trip value the share of the fall, rounded by floor, is at least 0 and never more than the whole fall,
and less than it where there is a fall. -/
theorem foldback_share (hs : s < x) (ht : x < t) (hf : f ≤ 1000) :
    0 ≤ (x - s) * (1000 - f) / (t - s) ∧ (x - s) * (1000 - f) / (t - s) ≤ 1000 - f
      ∧ (f < 1000 → (x - s) * (1000 - f) / (t - s) < 1000 - f) := by
  have hpos : 0 < t - s := by omega
  have hfall : (0 : Int) ≤ 1000 - f := by omega
  refine ⟨Int.ediv_nonneg (mul_nonneg (by omega) hfall) hpos.le, ?_, fun h => ?_⟩
  · refine Int.ediv_le_of_le_mul hpos ?_
    rw [mul_comm]
    exact mul_le_mul_of_nonneg_left (by omega) hfall
  · refine Int.ediv_lt_of_lt_mul hpos ?_
    rw [mul_comm]
    exact mul_lt_mul_of_pos_left (by omega) (by omega)

theorem foldback_between (hs : s < x) (ht : x < t) (hf : f ≤ 1000) :
    (foldback x s t f : Int) = 1000 - (x - s) * (1000 - f) / (t - s) := by
  obtain ⟨-, hle, -⟩ := foldback_share hs ht hf
  rw [foldback, if_neg (by omega), if_pos ht, Int.toNat_of_nonneg (by omega)]

theorem foldback_bounds (hst : s < t) (hf : f ≤ 1000) : f ≤ foldback x s t f ∧ foldback x s t f ≤ 1000 := by
  by_cases hs : x ≤ s
  · rw [foldback_start hs]
    exact ⟨hf, le_rfl⟩
  · by_cases ht : x < t
    · have heq := foldback_between (not_le.mp hs) ht hf
      obtain ⟨h0, hle, -⟩ := foldback_share (not_le.mp hs) ht hf
      omega
    · rw [foldback_trip hst (not_lt.mp ht)]
      exact ⟨le_rfl, hf⟩

end Foldback

/-! ## Thermal bands (R50) -/

section Bands

variable {p : Profile} {band : Band} {t : Int}

/-- `x` is at or above a band's lower edge; band A has none. -/
def ReachesEdge (p : Profile) (band : Band) (x : Int) : Prop :=
  match band with
  | .a => True
  | .b => p.e1 ≤ x
  | .c => p.e2 ≤ x
  | .d => p.e3 ≤ x

/-- `t` is below the lower edge plus H of the band next above; band D has none. -/
def BelowNext (p : Profile) (band : Band) (t : Int) : Prop :=
  match band with
  | .a => t < p.e1 + p.h
  | .b => t < p.e2 + p.h
  | .c => t < p.e3 + p.h
  | .d => True

theorem ReachesEdge.mono {x y : Int} (h : ReachesEdge p band x) (hxy : x ≤ y) : ReachesEdge p band y := by
  cases band with
  | a => trivial
  | b => exact le_trans h hxy
  | c => exact le_trans h hxy
  | d => exact le_trans h hxy

/-- Step 1 of R50 leaves the band, or takes it to a higher one whose lower edge plus H has been reached. -/
theorem bandRise_cases : bandRise p band t = band
    ∨ bandCode band < bandCode (bandRise p band t) ∧ ReachesEdge p (bandRise p band t) (t - p.h) := by
  cases band <;> simp only [bandRise, riseFromA, riseFromB, riseFromC]
  case d => exact Or.inl trivial
  all_goals split_ifs <;> simp [bandCode, ReachesEdge] <;> omega

/-- Step 1 goes on while the next band's lower edge plus H has been reached. -/
theorem bandRise_belowNext : BelowNext p (bandRise p band t) t := by
  cases band <;> simp only [bandRise, riseFromA, riseFromB, riseFromC]
  case d => trivial
  all_goals split_ifs <;> simp only [BelowNext] <;> omega

/-- Step 2 of R50 leaves the band, or takes it to a lower one from a lower edge that is not reached. -/
theorem bandFall_cases : bandFall p band t = band
    ∨ bandCode (bandFall p band t) < bandCode band ∧ ¬ ReachesEdge p band t := by
  cases band <;> simp only [bandFall, fallFromB, fallFromC]
  case a => exact Or.inl trivial
  all_goals split_ifs <;> simp [bandCode, ReachesEdge] <;> omega

/-- Step 2 goes on while the present band's lower edge is not reached. -/
theorem bandFall_reachesEdge : ReachesEdge p (bandFall p band t) t := by
  cases band <;> simp only [bandFall, fallFromB, fallFromC]
  case a => trivial
  all_goals split_ifs <;> simp only [ReachesEdge] <;> omega

theorem bandFall_belowNext (h : BelowNext p band t) : BelowNext p (bandFall p band t) t := by
  cases band <;> simp only [bandFall, fallFromB, fallFromC]
  case a => exact h
  all_goals split_ifs <;> simp only [BelowNext] at h ⊢ <;> omega

/-- A band whose lower edge is reached does not fall. -/
theorem bandFall_kept (h : ReachesEdge p band t) : bandFall p band t = band :=
  bandFall_cases.resolve_right fun hfall => hfall.2 h

/-- The update either keeps what step 1 gave, where that is a rise, or is step 2 alone: a band just risen to does not fall,
since its lower edge plus H has been reached. -/
theorem bandUpdate_cases :
    bandCode band < bandCode (bandUpdate p band t) ∧ ReachesEdge p (bandUpdate p band t) (t - p.h)
      ∨ bandUpdate p band t = bandFall p band t := by
  unfold bandUpdate
  obtain hsame | ⟨hrise, hedge⟩ := bandRise_cases (p := p) (band := band) (t := t)
  · rw [hsame]
    exact Or.inr rfl
  · rw [bandFall_kept (hedge.mono (by omega))]
    exact Or.inl ⟨hrise, hedge⟩

theorem bandUpdate_rises (h : bandCode band < bandCode (bandUpdate p band t)) :
    ReachesEdge p (bandUpdate p band t) (t - p.h) := by
  obtain ⟨-, hedge⟩ | hfall := bandUpdate_cases (p := p) (band := band) (t := t)
  · exact hedge
  · obtain hsame | ⟨hlower, -⟩ := bandFall_cases (p := p) (band := band) (t := t)
    · rw [hfall, hsame] at h
      exact absurd h (lt_irrefl _)
    · rw [hfall] at h
      exact absurd h (lt_asymm hlower)

theorem bandUpdate_falls (h : bandCode (bandUpdate p band t) < bandCode band) : ¬ ReachesEdge p band t := by
  obtain ⟨hrise, -⟩ | hfall := bandUpdate_cases (p := p) (band := band) (t := t)
  · exact absurd h (lt_asymm hrise)
  · obtain hsame | ⟨-, hedge⟩ := bandFall_cases (p := p) (band := band) (t := t)
    · rw [hfall, hsame] at h
      exact absurd h (lt_irrefl _)
    · exact hedge

theorem bandUpdate_reachesEdge : ReachesEdge p (bandUpdate p band t) t := bandFall_reachesEdge

theorem bandUpdate_belowNext : BelowNext p (bandUpdate p band t) t := bandFall_belowNext bandRise_belowNext

end Bands

/-! ## The thermal ceiling and the limiter (R52, R57) -/

theorem bandCeiling_value (top gradient : Nat) (edge t : Int) :
    (bandCeiling top gradient edge t : Int) = max 0 (top - gradient * max 0 (t - edge) / 10) :=
  Int.toNat_of_nonneg (le_max_left _ _)

/-- The least of the six components is one of them. -/
theorem leastComponent_eq_component (r : ChainRecord) :
    r.setPoint = leastComponent r ∨ r.cap = leastComponent r ∨ r.mismatch = leastComponent r
      ∨ r.thermal = leastComponent r ∨ r.site = leastComponent r ∨ r.blind = leastComponent r := by
  unfold leastComponent
  omega

/-- Each name is the limiter where its component is the first equal to P: some component is (R57). -/
theorem firstLimiter_spec {r : ChainRecord} {v : Nat} (h : v = leastComponent r) :
    (firstLimiter r v = .setpoint ↔ r.setPoint = v)
    ∧ (firstLimiter r v = .cap ↔ r.setPoint ≠ v ∧ r.cap = v)
    ∧ (firstLimiter r v = .mismatch ↔ r.setPoint ≠ v ∧ r.cap ≠ v ∧ r.mismatch = v)
    ∧ (firstLimiter r v = .thermal ↔ r.setPoint ≠ v ∧ r.cap ≠ v ∧ r.mismatch ≠ v ∧ r.thermal = v)
    ∧ (firstLimiter r v = .site ↔ r.setPoint ≠ v ∧ r.cap ≠ v ∧ r.mismatch ≠ v ∧ r.thermal ≠ v ∧ r.site = v)
    ∧ (firstLimiter r v = .blind ↔
        r.setPoint ≠ v ∧ r.cap ≠ v ∧ r.mismatch ≠ v ∧ r.thermal ≠ v ∧ r.site ≠ v ∧ r.blind = v) := by
  have hone := leastComponent_eq_component r
  rw [← h] at hone
  unfold firstLimiter
  split_ifs <;> simp_all

/-- Settles O50, function by function. -/
theorem readingsLinesAndBandsKeepTheirBounds : Obligations.ReadingsLinesAndBandsKeepTheirBounds := by
  refine ⟨fun forced raw top => ⟨conditionUnsigned_value forced raw top, conditionUnsigned_limited forced raw top⟩,
    fun forced raw => ⟨conditionTemperature_value forced raw, conditionTemperature_limited forced raw⟩,
    fun header fields => ⟨rfl, mem_conditionChain_limited header fields, rfl, mem_conditionSite_limited header fields⟩,
    fun x s t f hst hf => ?line, fun p band t _ _ _ => ?band,
    fun p band t => ⟨rfl, rfl, bandCeiling_value _ _ _ _, bandCeiling_value _ _ _ _, bandCeiling_value _ _ _ _⟩,
    fun r v h => firstLimiter_spec h⟩
  case line =>
    refine ⟨foldback_start, fun hs ht => ⟨foldback_between hs ht hf, fun hfloor => ?_⟩, foldback_trip hst,
      decide_eq_true_iff, foldback_bounds hst hf⟩
    have heq := foldback_between hs ht hf
    obtain ⟨-, -, hless⟩ := foldback_share hs ht hf
    have hshare := hless hfloor
    omega
  case band =>
    have hedge := bandUpdate_reachesEdge (p := p) (band := band) (t := t)
    have hnext := bandUpdate_belowNext (p := p) (band := band) (t := t)
    refine ⟨fun hr => ?rise, fun hf => ?fall, fun hb => ?a, fun hb => ?b, fun hb => ?c, fun hb => ?d⟩
    case rise =>
      have hrisen := bandUpdate_rises hr
      refine ⟨fun hb => ?_, fun hb => ?_, fun hb => ?_⟩ <;> rw [hb] at hrisen <;> exact le_sub_iff_add_le.mp hrisen
    case fall =>
      have hfallen := bandUpdate_falls hf
      refine ⟨fun hb => ?_, fun hb => ?_, fun hb => ?_⟩ <;> rw [hb] at hfallen <;> exact not_le.mp hfallen
    all_goals rw [hb] at hedge hnext
    case a => exact hnext
    case b => exact ⟨hedge, hnext⟩
    case c => exact ⟨hedge, hnext⟩
    case d => exact hedge

end Sys2Proof.Machine
end

section
/-! PROOFS. What changes a chain's composition: evaluations in RAMP and ACTIVE, site ceiling changes and profile
activations. -/

namespace Sys2Proof.Machine

/-! ## The slow trip an evaluation finds (R61) -/

/-- What is named first is what the evaluation finds, with its dwell class (Table 6-1). -/
theorem slowTripFound_first {p : Profile} {x : ChainReadings} {ratio : Option Nat} {cause : TripCause}
    {lengths : DwellLengths}
    (h : if p.qmax < x.reflected then cause = .reflAbs ∧ lengths = p.dwellMismatch
      else if ∃ v, ratio = some v ∧ p.rt ≤ v then cause = .mismatch ∧ lengths = p.dwellMismatch
      else p.ttrip ≤ x.tout ∧ cause = .overtemp ∧ lengths = p.dwellThermal) :
    slowTripFound p x ratio = some cause ∧ ∃ k, causeClass cause = some k ∧ lengths = dwellOf p k := by
  have hany : (ratio.any fun v => decide (p.rt ≤ v)) = true ↔ ∃ v, ratio = some v ∧ p.rt ≤ v := by
    simp [Option.any_eq_true]
  unfold slowTripFound
  simp only [hany]
  split_ifs at h ⊢
  · obtain ⟨rfl, rfl⟩ := h
    exact ⟨rfl, .mismatch, rfl, rfl⟩
  · obtain ⟨rfl, rfl⟩ := h
    exact ⟨rfl, .mismatch, rfl, rfl⟩
  · obtain ⟨-, rfl, rfl⟩ := h
    exact ⟨rfl, .thermal, rfl, rfl⟩
  · next ht => exact absurd h.1 ht

/-- With no condition holding nothing is found. -/
theorem slowTripFound_none {p : Profile} {x : ChainReadings} {ratio : Option Nat} (hq : x.reflected ≤ p.qmax)
    (hr : ∀ v, ratio = some v → v < p.rt) (ht : x.tout < p.ttrip) : slowTripFound p x ratio = none := by
  have hany : ¬ (ratio.any fun v => decide (p.rt ≤ v)) = true := by
    simpa [Option.any_eq_true] using hr
  rw [slowTripFound, if_neg (by omega), if_neg hany, if_neg (by omega)]

/-- Each cause an evaluation finds has a dwell class, and weight 1 (Table 6-1). -/
theorem slowTripFound_class {p : Profile} {x : ChainReadings} {ratio : Option Nat} {cause : TripCause}
    (h : slowTripFound p x ratio = some cause) : (∃ k, causeClass cause = some k) ∧ causeWeight cause = 1 := by
  unfold slowTripFound at h
  split_ifs at h <;> cases h
  · exact ⟨⟨.mismatch, rfl⟩, rfl⟩
  · exact ⟨⟨.mismatch, rfl⟩, rfl⟩
  · exact ⟨⟨.thermal, rfl⟩, rfl⟩

/-- A cause of weight 1 adds its entry, and 1 to the weight sum. -/
theorem appendTrip_weight_one {cause : TripCause} (h : causeWeight cause = 1) (clock : Word32) (l : List TripEntry) :
    appendTrip cause clock l = l ++ [⟨clock, cause⟩] ∧ weightSum (l ++ [⟨clock, cause⟩]) = weightSum l + 1 := by
  refine ⟨by simp [appendTrip, h], ?_⟩
  rw [weightSum_append]
  simp [weightSum, h]

/-! ## Evaluations in RAMP and ACTIVE -/

/-- The two modes of a running chain. -/
theorem runState_cases {m : ChainMode} {run : RunState} (h : runState m = some run) :
    m = .ramp ∧ run = .ramp ∨ m = .active ∧ run = .active := by
  cases m <;> cases h
  case ramp => exact Or.inl ⟨rfl, rfl⟩
  case active => exact Or.inr ⟨rfl, rfl⟩

/-- How A follows a composition in RAMP and ACTIVE (R58, R14). -/
theorem followComposition_run {r : ChainRecord} {run : RunState} (hm : runState r.mode = some run) :
    followComposition r = { r with
      applied := min r.applied r.permitted
      mode := if run = .ramp ∧ r.applied < r.permitted then .ramp else .active } := by
  obtain ⟨hmode, rfl⟩ | ⟨hmode, rfl⟩ := runState_cases hm <;> simp only [followComposition, hmode]
  case inl =>
    by_cases hreached : r.permitted ≤ r.applied
    · rw [if_pos hreached, if_neg (fun h => absurd h.2 (not_lt.mpr hreached)), min_eq_right hreached]
    · rw [if_neg hreached, if_pos ⟨trivial, not_le.mp hreached⟩, min_eq_left (not_le.mp hreached).le, ← hmode]
  case inr => rw [if_neg (fun h => nomatch h.1), ← hmode]

section RunningEvaluation

variable {dt : Nat} {c : ChainNo} {x : ChainReadings} {returned : Bool} {run : RunState} {cause : TripCause}
  {b : ChainInbox} {s : State}

/-- In RAMP and ACTIVE a cause found on what steps 1 to 6 leave trips the chain, with the A and the state the event
found (R61, R62). -/
theorem takeEvaluation_trips (hm : runState (recordOf s c).mode = some run)
    (hf : slowTripFound (profileOf s c) x (evaluateRecord (profileOf s c) x returned (recordOf s c)).ratio
      = some cause) :
    takeEvaluation c x returned (setInbox c b (elapse dt s))
      = slowTrip c cause (siteClock (elapse dt s)) run (recordOf s c).applied
          (evaluateRecord (profileOf s c) x returned (recordOf s c)) (setInbox c b (elapse dt s)) := by
  obtain ⟨hmode, rfl⟩ | ⟨hmode, rfl⟩ := runState_cases hm <;>
    simp only [takeEvaluation, setInbox_recordOf, elapse_recordOf, setInbox_profileOf, elapse_profileOf, hmode, hf] <;>
    rfl

/-- With no cause found A follows what steps 1 to 6 composed (R58, R61). -/
theorem takeEvaluation_follows (hm : runState (recordOf s c).mode = some run)
    (hf : slowTripFound (profileOf s c) x (evaluateRecord (profileOf s c) x returned (recordOf s c)).ratio = none) :
    takeEvaluation c x returned (setInbox c b (elapse dt s))
      = commitChain c (followComposition (evaluateRecord (profileOf s c) x returned (recordOf s c)))
          (setInbox c b (elapse dt s)) := by
  obtain ⟨hmode, rfl⟩ | ⟨hmode, rfl⟩ := runState_cases hm <;>
    simp only [takeEvaluation, setInbox_recordOf, elapse_recordOf, setInbox_profileOf, elapse_profileOf, hmode, hf]

end RunningEvaluation

/-- Settles O14: the event is either the trip entry of what is found, or the commit of a record whose A follows P. -/
theorem evaluationTripsOrFollows : Obligations.EvaluationTripsOrFollows := by
  intro dt c x returned rest run s hp hin hm
  let r := evaluateRecord (profileOf s c) x returned (recordOf s c)
  rw [exec_chainEvaluation hp hin]
  cases hfound : slowTripFound (profileOf s c) x r.ratio with
  | some found =>
    rw [takeEvaluation_trips hm hfound]
    obtain ⟨⟨k, hk⟩, hw⟩ := slowTripFound_class hfound
    obtain ⟨happ, hsum⟩ := appendTrip_weight_one hw (siteClock (elapse dt s)) (recordOf s c).tripList
    obtain ⟨hf, hn⟩ := finishSlowTrip_event (dt := dt) (c := c) (b := { inboxOf s c with intake := rest })
      (tripTime := siteClock (elapse dt s)) (run := run) (a := (recordOf s c).applied) (r := r) hp rfl hk
    refine ⟨_, r, rfl, evaluateRecord_to _ _ _ _, hn, fun cause lengths h => ?_, fun hq hr ht => ?_⟩
    · obtain ⟨hcause, k', hk', rfl⟩ := slowTripFound_first h
      obtain rfl : found = cause := Option.some.inj (hfound.symm.trans hcause)
      obtain rfl : k = k' := Option.some.inj (hk.symm.trans hk')
      refine ⟨?_, inhibit_asserted hf rfl⟩
      have hlist : appendTrip found (siteClock (elapse dt s)) r.tripList
          = (recordOf s c).tripList ++ [⟨siteClock (elapse dt s), found⟩] := happ
      rw [hlist, hsum] at hf
      exact hf
    · rw [slowTripFound_none hq hr ht] at hfound
      cases hfound
  | none =>
    rw [takeEvaluation_follows hm hfound, followComposition_run (r := r) hm]
    obtain ⟨hf, hn⟩ := finishCommit_event (dt := dt) (c := c) (b := { inboxOf s c with intake := rest })
      (r := { r with
        applied := min r.applied r.permitted
        mode := if run = .ramp ∧ r.applied < r.permitted then .ramp else .active }) hp rfl
    refine ⟨_, r, rfl, evaluateRecord_to _ _ _ _, hn, fun cause lengths h => ?_, fun _ _ _ => hf⟩
    obtain ⟨hcause, -⟩ := slowTripFound_first h
    rw [hfound] at hcause
    cases hcause

/-! ## Site ceiling changes (R66) -/

theorem exec_siteCeilingChange {dt : Nat} {c : ChainNo} {x : Nat} {trip : Option SiteTrip} {loss : Bool}
    {rest : List SiteDelivery} {s : State} (hp : s.phase = .running)
    (h : (inboxOf s c).site = ⟨some x, trip, loss⟩ :: rest) :
    exec (.siteCeilingChange dt c) s
      = .next (finish (takeCeiling c x
          (setInbox c { inboxOf s c with site := siteLeft ⟨none, trip, loss⟩ rest } (elapse dt s)))) := by
  show Host.Outcome.next (whileRunning _ _) = _
  rw [whileRunning_running hp]
  simp only [ceilingEvent, elapse_inboxOf, h, afterTaking_eq]

theorem takeCeiling_taken {c : ChainNo} {x : Nat} {s : State} (dt : Nat) (b : ChainInbox) :
    takeCeiling c x (setInbox c b (elapse dt s))
      = commitChain c (recompose { recordOf s c with site := x }) (setInbox c b (elapse dt s)) := by
  simp only [takeCeiling, setInbox_recordOf, elapse_recordOf]

/-- Settles O17: in every state the event commits the record recomposed with the delivered X. -/
theorem siteCeilingChangeRecomposes : Obligations.SiteCeilingChangeRecomposes := by
  intro dt c x trip loss rest s hp hin
  obtain ⟨hf, hn⟩ := finishCommit_event (dt := dt) (c := c)
    (b := { inboxOf s c with site := siteLeft ⟨none, trip, loss⟩ rest })
    (r := recompose { recordOf s c with site := x }) hp rfl
  refine ⟨_, _, ?_, hn, recompose_to _, hf⟩
  rw [exec_siteCeilingChange hp hin, takeCeiling_taken]
  rfl

/-! ## Profile activations (R67) -/

section Activation

variable {dt : Nat} {c : ChainNo} {p : Profile} {x : ChainReadings} {r : ChainRecord} {s : State}

theorem mismatchCeiling_noRatio {ratio : Option Nat} (h : ratio = none) : mismatchCeiling p ratio = 1000 := by
  rw [h, mismatchCeiling]

/-- A present ratio, read as the integer the foldback line takes, gives M by that line (R48). -/
theorem mismatchCeiling_ratio {ratio : Option Nat} {v : Int} (h : ratio.map Nat.cast = some v) :
    mismatchCeiling p ratio = foldback v p.rs p.rt p.mf := by
  obtain ⟨n, rfl, rfl⟩ := Option.map_eq_some_iff.mp h
  rfl

/-- A record formed again under profile `p`, its trip list aged at `clock` under the new window (R67, R115). -/
def reformedRecord (p : Profile) (c : ChainNo) (clock : Word32) (r : ChainRecord) : ChainRecord :=
  { activateRecord p c r with tripList := ageList p clock r.tripList }

/-- With no readings held R is absent, the band A and Θ its ceiling (R51, R52). -/
theorem reformedRecord_noReadings (p : Profile) (c : ChainNo) (clock : Word32) (h : r.readings = none) :
    (reformedRecord p c clock r).ratio = none ∧ (reformedRecord p c clock r).band = .a
      ∧ (reformedRecord p c clock r).thermal = p.cA := by
  simp [reformedRecord, activateRecord, heldTout, h, bandFresh, thermalCeiling]

/-- The readings held give R, the band without hysteresis and Θ under the new profile (R51, R52, R67). -/
theorem reformedRecord_readings (p : Profile) (c : ChainNo) (clock : Word32) (h : r.readings = some x) :
    (reformedRecord p c clock r).ratio = reflectedRatio p.fmin x.forward x.reflected
      ∧ (reformedRecord p c clock r).band = bandFresh p (some x.tout)
      ∧ (reformedRecord p c clock r).thermal
          = thermalCeiling p (reformedRecord p c clock r).band (some x.tout) := by
  simp [reformedRecord, activateRecord, heldTout, h]

theorem exec_chainProfileActivation {rest : List Profile} (hp : s.phase = .running)
    (h : (inboxOf s c).activations = p :: rest) :
    exec (.chainProfileActivation dt c) s
      = .next (finish (takeActivation c p (setInbox c { inboxOf s c with activations := rest } (elapse dt s)))) := by
  show Host.Outcome.next (whileRunning _ _) = _
  rw [whileRunning_running hp]
  simp only [chainActivationEvent, elapse_inboxOf, h]

/-- The chain's profile is replaced and the record formed again under it is recomposed. -/
theorem takeActivation_taken {b : ChainInbox} :
    takeActivation c p (setInbox c b (elapse dt s))
      = commitChain c (recompose (reformedRecord p c (siteClock (elapse dt s)) (recordOf s c)))
          (setChain c { s.chains.get c with inbox := b, profile := p } (elapse dt s)) := by
  have hs : setChain c { chainOfState (setInbox c b (elapse dt s)) c with profile := p } (setInbox c b (elapse dt s))
      = setChain c { s.chains.get c with inbox := b, profile := p } (elapse dt s) := by
    simp [setChain, setInbox, chainOfState]
  rw [takeActivation, hs, setInbox_recordOf, elapse_recordOf]
  rfl

end Activation

/-- Settles O36: the event commits the record formed again under the new profile, recomposed. -/
theorem activationReformsChain : Obligations.ActivationReformsChain := by
  intro dt c p rest s hp hin
  let r0 := reformedRecord p c (siteClock (elapse dt s)) (recordOf s c)
  obtain ⟨hf, hn⟩ := finishCommit_frame (dt := dt) (c := c) (b := { inboxOf s c with activations := rest }) (p := p)
    (l := s.capture.handed) (r := recompose r0) hp rfl
  refine ⟨_, r0, recompose r0, ?_, hn, ?_, reformedRecord_noReadings p c _,
    fun x => reformedRecord_readings p c _, mismatchCeiling_noRatio,
    fun v hv => mismatchCeiling_ratio (Option.map_eq_bind.trans hv), recompose_to r0, hf⟩
  · rw [exec_chainProfileActivation hp hin, takeActivation_taken]
    rfl
  · rw [hf.siteClock]
    rfl

end Sys2Proof.Machine
end

section
/-! PROOFS. The Site Monitor's events (R72 to R87): what each state operation makes of a state in which a site event has
changed the Site Monitor, the inboxes, the alarm reasons, the records handed over and the site flag so far. -/

namespace Sys2Proof.Machine

/-! ## A site event on its way -/

/-- `s` after `dt`, its Site Monitor become `x`, every inbox changed by `f`, the alarm reasons `a`, the records handed over
`l`, and the site flag raised where `raised` says so. -/
def siteChanged (dt : Nat) (x : SiteMonitor) (f : ChainInbox → ChainInbox) (a : AlarmReasons) (l : List HandedRecord)
    (raised : Bool) (s : State) : State :=
  { s with
    time := s.time + dt
    site := x
    chains := s.chains.map fun y => { y with inbox := f y.inbox }
    alarms := a
    capture := { s.capture with handed := l }
    link := { s.link with noticePending := raisedFlags none raised false (s.time + dt) s.link } }

section SiteChanged

variable {dt : Nat} {x : SiteMonitor} {f : ChainInbox → ChainInbox} {a : AlarmReasons} {l : List HandedRecord}
  {raised : Bool} {s : State}

theorem siteChanged_site : (siteChanged dt x f a l raised s).site = x := rfl

/-- Finished, it is the frame the claims state. -/
theorem finish_siteChanged (hp : s.phase = .running) :
    SiteFrame dt x f a l raised s (finish (siteChanged dt x f a l raised s)) :=
  finish_siteFrame hp rfl (fun c => Quad.get_map _ _ c) rfl rfl rfl rfl

theorem elapse_siteChanged : elapse dt s = siteChanged dt s.site id s.alarms s.capture.handed false s := by
  have hc : (s.chains.map fun y => { y with inbox := id y.inbox }) = s.chains := rfl
  simp only [siteChanged, hc, raisedFlags_none]
  rfl

theorem setSite_siteChanged (r : SiteRecord) :
    setSite r (siteChanged dt x f a l raised s) = siteChanged dt { x with record := r } f a l raised s := rfl

theorem setSiteIntake_siteChanged (k : List (IntakeEvent SiteReadings)) :
    setSiteIntake k (siteChanged dt x f a l raised s) = siteChanged dt { x with intake := k } f a l raised s := rfl

theorem handRecord_siteChanged (k : Fin 5) (rec_ : CaptureRecord) :
    handRecord k rec_ (siteChanged dt x f a l raised s)
      = siteChanged dt x f a (placeRecord ⟨k, s.time + dt, rec_⟩ l) raised s := rfl

theorem deliverAll_siteChanged (g : ChainInbox → ChainInbox) :
    deliverAll g (siteChanged dt x f a l raised s) = siteChanged dt x (fun b => g (f b)) a l raised s := rfl

/-- A delivery joins each inbox; an empty one does not (R76, R82). -/
theorem deliverSite_siteChanged (d : SiteDelivery) :
    deliverSite d (siteChanged dt x f a l raised s)
      = siteChanged dt x (fun b => { f b with site := siteJoined d (f b).site }) a l raised s := by
  by_cases h : d = ⟨none, none, false⟩
  · simp only [deliverSite, siteJoined, isEmpty_iff, if_pos h]
  · simp only [deliverSite, siteJoined, isEmpty_iff, if_neg h]
    rfl

theorem raiseSite_siteChanged :
    raiseSite (siteChanged dt x f a l raised s) = siteChanged dt x f a l true s := by
  rw [raiseSite_frame, raiseSite_link]
  simp only [siteChanged, raisedFlags_twice, Bool.or_true]

/-- A change of the alarm reasons raises the site flag (R150). -/
theorem setAlarms_siteChanged (a' : AlarmReasons) :
    setAlarms a' (siteChanged dt x f a l raised s) = siteChanged dt x f a' l (raised || decide (a' ≠ a)) s := by
  rw [setAlarms_frame, setAlarms_link]
  simp only [siteChanged, raisedFlags_twice]
  rfl

theorem setSiteLostReason_siteChanged (holds : Bool) :
    setSiteLostReason holds (siteChanged dt x f a l raised s)
      = siteChanged dt x f { a with siteLost := holds } l (raised || decide ({ a with siteLost := holds } ≠ a)) s :=
  setAlarms_siteChanged _

/-- The front event leaves the Site Monitor's waiting ones: where every event of the Intake starts. -/
theorem setSiteIntake_elapse (rest : List (IntakeEvent SiteReadings)) :
    setSiteIntake rest (elapse dt s)
      = siteChanged dt { s.site with intake := rest } id s.alarms s.capture.handed false s := by
  rw [elapse_siteChanged, setSiteIntake_siteChanged]

end SiteChanged

/-! ## Evaluations (R72 to R77) -/

section Evaluation

variable {dt : Nat} {p : Profile} {x : SiteReadings} {returned : Bool} {r : SiteRecord}
  {rest : List (IntakeEvent SiteReadings)} {s : State}

theorem exec_siteEvaluation (hp : s.phase = .running) (h : s.site.intake = .evaluation x returned :: rest) :
    exec (.siteEvaluation dt) s
      = .next (finish (takeSiteEvaluation x returned (setSiteIntake rest (elapse dt s)))) := by
  show Host.Outcome.next (whileRunning _ _) = _
  rw [whileRunning_running hp]
  simp only [siteEvaluationEvent, elapse_site, h]

/-- What an evaluation delivers: a changed X, and one trip event if a condition holds (R76, R77). -/
def evaluationDelivery (old r : SiteRecord) : SiteDelivery :=
  ⟨changedCeiling old.ceiling r.ceiling, siteTripOf r, false⟩

/-- A return withdraws SITE_LOST and raises the flag; else the reasons and the flag stay (R72, R87). -/
theorem siteReturn_siteChanged {y : SiteMonitor} {f : ChainInbox → ChainInbox} {a : AlarmReasons}
    {l : List HandedRecord} :
    (if returned then raiseSite (setSiteLostReason false (siteChanged dt y f a l false s))
      else siteChanged dt y f a l false s)
      = siteChanged dt y f { a with siteLost := a.siteLost && !returned } l returned s := by
  cases returned with
  | true =>
    rw [if_pos rfl, setSiteLostReason_siteChanged, raiseSite_siteChanged, Bool.not_true, Bool.and_false]
  | false =>
    rw [if_neg Bool.false_ne_true, Bool.not_false, Bool.and_true]

theorem takeSiteEvaluation_siteChanged (hr : r = evaluateSite s.site.profile x returned s.site.record) :
    takeSiteEvaluation x returned (setSiteIntake rest (elapse dt s))
      = siteChanged dt { s.site with record := r, intake := rest }
          (fun b => { b with site := siteJoined (evaluationDelivery s.site.record r) b.site })
          { s.alarms with siteLost := s.alarms.siteLost && !returned } s.capture.handed
          (returned || decide (r.feederTrip ≠ s.site.record.feederTrip)
            || decide (r.rejectTrip ≠ s.site.record.rejectTrip)) s := by
  rw [setSiteIntake_elapse]
  simp only [takeSiteEvaluation, siteReturn_siteChanged, setSite_siteChanged, deliverSite_siteChanged,
    raiseSite_siteChanged, siteChanged_site, ← hr]
  by_cases hc : r.feederTrip = s.site.record.feederTrip ∧ r.rejectTrip = s.site.record.rejectTrip
  · obtain ⟨hf, hj⟩ := hc
    simp only [hf, hj, and_self, if_true, ne_eq, not_true, decide_false, Bool.or_false]
    rfl
  · have hd : (decide (r.feederTrip ≠ s.site.record.feederTrip) || decide (r.rejectTrip ≠ s.site.record.rejectTrip))
        = true := by
      simpa [-not_and, not_and_or] using hc
    rw [if_neg hc, Bool.or_assoc, hd, Bool.or_true]
    rfl

/-- Freshness, X and the trip conditions, set after the lines, leave the lines as formed. -/
theorem evaluateSite_formed : SiteLinesFormed p x r (evaluateSite p x returned r) := by
  obtain ⟨readings, ratio, feeder, noRatio, reject, pressure, evaluated, interlock⟩ :=
    formSiteLines_formed p x { r with freshness := if returned then .fresh else r.freshness }
  exact ⟨readings, ratio, feeder, noRatio, reject, pressure, evaluated, interlock⟩

/-- The feeder condition is on the ratio the evaluation formed (R77). -/
theorem evaluateSite_feederTrip :
    (evaluateSite p x returned r).feederTrip = true
      ↔ ∃ v, (evaluateSite p x returned r).ratio = some v ∧ p.rtSite ≤ v := by
  show Option.any _ _ = true ↔ _
  rw [Option.any_eq_true]
  simp only [decide_eq_true_eq]
  rfl

theorem evaluateSite_rejectTrip : (evaluateSite p x returned r).rejectTrip = true ↔ p.jtrip ≤ x.trej :=
  decide_eq_true_iff

end Evaluation

/-- Settles O28: the record is `evaluateSite`'s, and each operation of the event adds its part to the frame. -/
theorem siteEvaluationDeliversToChains : Obligations.SiteEvaluationDeliversToChains := by
  intro dt x returned rest s hp hin
  refine ⟨_, evaluateSite s.site.profile x returned s.site.record, exec_siteEvaluation hp hin, evaluateSite_formed,
    rfl, rfl, evaluateSite_feederTrip, evaluateSite_rejectTrip, ?_⟩
  rw [takeSiteEvaluation_siteChanged rfl]
  exact finish_siteChanged hp

/-! ## STALE and LOST (R80, R81) -/

section Ageing

variable {dt : Nat} {due : Word32} {rest : List (IntakeEvent SiteReadings)} {s : State}

theorem exec_siteStale (hp : s.phase = .running) (h : s.site.intake = .wentStale :: rest) :
    exec (.siteStale dt) s = .next (finish (takeSiteStale (setSiteIntake rest (elapse dt s)))) := by
  show Host.Outcome.next (whileRunning _ _) = _
  rw [whileRunning_running hp]
  simp only [siteStaleEvent, elapse_site, h]

theorem exec_siteLost (hp : s.phase = .running) (h : s.site.intake = .wentLost due :: rest) :
    exec (.siteLost dt) s = .next (finish (takeSiteLost (setSiteIntake rest (elapse dt s)))) := by
  show Host.Outcome.next (whileRunning _ _) = _
  rw [whileRunning_running hp]
  simp only [siteLostEvent, elapse_site, h]

/-- A loss of freshness is delivered with X, changed or not, and raises the flag (R80). -/
theorem takeSiteStale_siteChanged :
    takeSiteStale (setSiteIntake rest (elapse dt s))
      = siteChanged dt
          { s.site with
            record := { s.site.record with
              freshness := .stale, ceiling := min s.site.record.evaluated s.site.profile.siteBlind }
            intake := rest }
          (fun b => { b with
            site := siteJoined
              ⟨changedCeiling s.site.record.ceiling (min s.site.record.evaluated s.site.profile.siteBlind), none, true⟩
              b.site })
          s.alarms s.capture.handed true s := by
  rw [setSiteIntake_elapse]
  simp only [takeSiteStale, setSite_siteChanged, deliverSite_siteChanged, raiseSite_siteChanged]
  rfl

/-- The trip SITE_MEAS_LOST is delivered, SITE_LOST joins the alarm reasons, and the flag is raised (R81). -/
theorem takeSiteLost_siteChanged :
    takeSiteLost (setSiteIntake rest (elapse dt s))
      = siteChanged dt { s.site with record := { s.site.record with freshness := .lost }, intake := rest }
          (fun b => { b with site := siteJoined ⟨none, some .siteMeasLost, false⟩ b.site })
          { s.alarms with siteLost := true } s.capture.handed true s := by
  rw [setSiteIntake_elapse]
  simp only [takeSiteLost, setSite_siteChanged, deliverSite_siteChanged, setSiteLostReason_siteChanged,
    raiseSite_siteChanged]
  rfl

/-- A site event of a running part that leaves SITE_LOST held leaves the alarm line asserted (R149, R150). -/
theorem SiteFrame.alarm_asserted {x : SiteMonitor} {f : ChainInbox → ChainInbox} {a : AlarmReasons}
    {l : List HandedRecord} {raised : Bool} {t : State} (h : SiteFrame dt x f a l raised s t) (hp : s.phase = .running)
    (ha : a.siteLost = true) : t.lines.alarm = true := by
  have hrun : t.phase = .running := by
    rw [h.rest]
    exact hp
  simp [h.lines, linesOf, hrun, heldAsserted, anyReason, h.alarms, ha]

end Ageing

/-- Settles O29: both changes as their operations make them; SITE_LOST asserts the alarm line. -/
theorem siteAgesToStaleAndLost : Obligations.SiteAgesToStaleAndLost := by
  refine ⟨fun dt rest s hp hin => ⟨_, exec_siteStale hp hin, ?stale⟩,
    fun dt due rest s hp hin => ⟨_, exec_siteLost hp hin, ?lost⟩⟩
  case stale =>
    rw [takeSiteStale_siteChanged]
    exact finish_siteChanged hp
  case lost =>
    rw [takeSiteLost_siteChanged]
    exact ⟨finish_siteChanged hp, (finish_siteChanged hp).alarm_asserted hp rfl⟩

/-! ## The interlock (R83, R84) -/

section Interlock

variable {dt since : Nat} {s : State}

/-- A level away from the interlock state is timed from its edge; one that matches it is not (R83). -/
theorem exec_interlockLineEdge {high : Bool} (hp : s.phase = .running) (h : s.pins.ilk ≠ high) :
    exec (.interlockLineEdge dt high) s
      = .next (filterInterlock high { elapse dt s with pins := { s.pins with ilk := high } }) :=
  congrArg Host.Outcome.next ((if_neg h).trans (if_pos hp))

/-- The raw level matches the interlock state: high while CLOSED, low while OPEN. -/
theorem eq_interlockLevel_iff (i : Interlock) (high : Bool) :
    high = interlockLevel i ↔ (i = .closed ↔ high = true) := by
  cases i <;> cases high <;> decide

theorem interlockDue_elapse (hf : s.site.record.filterSince = some since) (ht : since + 1000 ≤ s.time + dt) :
    interlockDue (elapse dt s) = true := by
  simp [interlockDue, interlockMicros, hf, ht]

/-- An opening hands its capture record over before it is delivered (R84). -/
theorem exec_interlockOpening (hp : s.phase = .running) (hi : s.site.record.interlock = .closed)
    (hl : s.pins.ilk = false) (hd : interlockDue (elapse dt s) = true) :
    exec (.interlockOpening dt) s
      = .next (finish (siteChanged dt
          { s.site with record := { s.site.record with interlock := .opened, filterSince := none } }
          (fun b => { b with interlock := b.interlock ++ [.opening] }) s.alarms
          (placeRecord ⟨4, s.time + dt, interlockCapture (elapse dt s)⟩ s.capture.handed) true s)) := by
  show Host.Outcome.next (whileRunning _ _) = _
  rw [whileRunning_running hp, openInterlock, if_pos ⟨hi, hl, hd⟩]
  simp only [setInterlock]
  rw [elapse_siteChanged, setSite_siteChanged, handRecord_siteChanged, deliverAll_siteChanged, raiseSite_siteChanged]
  rfl

/-- A closing makes no capture record (R84). -/
theorem exec_interlockClosing (hp : s.phase = .running) (hi : s.site.record.interlock = .opened)
    (hl : s.pins.ilk = true) (hd : interlockDue (elapse dt s) = true) :
    exec (.interlockClosing dt) s
      = .next (finish (siteChanged dt
          { s.site with record := { s.site.record with interlock := .closed, filterSince := none } }
          (fun b => { b with interlock := b.interlock ++ [.closing] }) s.alarms s.capture.handed true s)) := by
  show Host.Outcome.next (whileRunning _ _) = _
  rw [whileRunning_running hp, closeInterlock, if_pos ⟨hi, hl, hd⟩]
  simp only [setInterlock]
  rw [elapse_siteChanged, setSite_siteChanged, deliverAll_siteChanged, raiseSite_siteChanged]
  rfl

end Interlock

/-- Settles O30: the filter's edges, and the two changes it qualifies. -/
theorem interlockQualifiesAfterOneMillisecond : Obligations.InterlockQualifiesAfterOneMillisecond := by
  refine fun dt s hp => ⟨fun high h => ?edge, fun since hi hl hf ht => ?opening, fun since hi hl hf ht => ?closing⟩
  case edge =>
    simp only [exec_interlockLineEdge hp h, filterInterlock, eq_interlockLevel_iff]
    rfl
  case opening =>
    exact ⟨_, exec_interlockOpening hp hi hl (interlockDue_elapse hf ht), finish_siteChanged hp⟩
  case closing =>
    exact ⟨_, exec_interlockClosing hp hi hl (interlockDue_elapse hf ht), finish_siteChanged hp⟩

end Sys2Proof.Machine
end

section
/-! PROOFS. A profile activation at the Site Monitor, the Fast Mute Unit and the tracker (R85, R91, R136). -/

namespace Sys2Proof.Machine

/-! ## The Site Monitor (R85) -/

section SiteActivation

variable {dt : Nat} {p : Profile} {x : SiteReadings} {r : SiteRecord} {rest : List Profile} {s : State}

theorem exec_siteProfileActivation (hp : s.phase = .running) (h : s.site.activations = p :: rest) :
    exec (.siteProfileActivation dt) s
      = .next (deliverSite
          ⟨changedCeiling s.site.record.ceiling (activateSite p s.site.record).ceiling, none, false⟩
          { s with
            time := s.time + dt
            site := { s.site with record := activateSite p s.site.record, activations := rest, profile := p } }) := by
  show Host.Outcome.next (whileRunning _ _) = _
  rw [whileRunning_running hp]
  simp only [siteActivationEvent, elapse_site, h]
  rfl

theorem activateSite_noReadings (h : r.readings = none) : activateSite p r = r := by
  simp only [activateSite, h]

/-- X, set after the lines, leaves the lines as formed. -/
theorem activateSite_formed (h : r.readings = some x) : SiteLinesFormed p x r (activateSite p r) := by
  obtain ⟨readings, ratio, feeder, noRatio, reject, pressure, evaluated, interlock⟩ := formSiteLines_formed p x r
  simp only [activateSite, h]
  exact ⟨readings, ratio, feeder, noRatio, reject, pressure, evaluated, interlock⟩

/-- Unless FRESH, X stays under the site blind ceiling (R85). -/
theorem activateSite_ceiling (h : r.readings = some x) :
    (activateSite p r).ceiling
      = if r.freshness = .fresh then (activateSite p r).evaluated else min (activateSite p r).evaluated p.siteBlind := by
  simp only [activateSite, h]

theorem activateSite_kept (h : r.readings = some x) :
    (activateSite p r).feederTrip = r.feederTrip ∧ (activateSite p r).rejectTrip = r.rejectTrip
      ∧ (activateSite p r).freshness = r.freshness := by
  simp only [activateSite, h]
  exact ⟨rfl, rfl, rfl⟩

/-- What a site event delivers, in the terms claims use. -/
theorem deliverSite_joined (d : SiteDelivery) (s : State) :
    InboxesOnly (fun _ b => { b with site := siteJoined d b.site }) s (deliverSite d s) := by
  intro c
  rw [deliverSite_inboxes d s c]
  simp only [siteJoined, isEmpty_iff]

end SiteActivation

/-! ## The Fast Mute Unit and the tracker (R91, R136) -/

section OtherActivations

variable {dt : Nat} {p : Profile} {rest : List Profile} {s : State}

theorem exec_fastMuteProfileActivation (hp : s.phase = .running) (h : s.fastMute.activations = p :: rest) :
    exec (.fastMuteProfileActivation dt) s = .next { s with
      time := s.time + dt, fastMute := { s.fastMute with arcMap := p.arcMap, activations := rest } } := by
  show Host.Outcome.next (whileRunning _ _) = _
  rw [whileRunning_running hp]
  simp only [fastMuteActivationEvent, elapse_fastMute, h]
  rfl

theorem exec_trackerProfileActivation_same (hp : s.phase = .running) (h : s.tracker.activations = p :: rest)
    (hn : p.tn = s.tracker.tn) :
    exec (.trackerProfileActivation dt) s = .next { s with
      time := s.time + dt, tracker := { s.tracker with activations := rest } } := by
  show Host.Outcome.next (whileRunning _ _) = _
  rw [whileRunning_running hp]
  simp only [trackerActivationEvent, elapse_tracker, h, hn, if_true]
  rfl

theorem exec_trackerProfileActivation_changed (hp : s.phase = .running) (h : s.tracker.activations = p :: rest)
    (hn : p.tn ≠ s.tracker.tn) :
    exec (.trackerProfileActivation dt) s
      = .next (putTracker (retune (trackerTime (elapse dt s)) p.tn { s.tracker with activations := rest })
          (elapse dt s)) := by
  show Host.Outcome.next (whileRunning _ _) = _
  rw [whileRunning_running hp]
  simp only [trackerActivationEvent, elapse_tracker, h, hn, if_false]

/-- The due already passed: the first fallback tick at once, and the next due a period later (R131, R136). -/
theorem retune_passed {now : Word32} {tn : Nat} {t : Tracker} (h : 10 * tn < (now - t.lastTick).toNat) :
    retune now tn t
      = ({ t with
            tn := tn, lastTick := now, fallbacks := bump t.fallbacks
            mode := .search none 0 (now + BitVec.ofNat 32 (10 * tn)) }, true) := if_pos h

/-- The due still ahead, a period after the last tick (R136). -/
theorem retune_ahead {now : Word32} {tn : Nat} {t : Tracker} (h : ¬ 10 * tn < (now - t.lastTick).toNat) :
    retune now tn t
      = ({ t with tn := tn, mode := .search none 0 (t.lastTick + BitVec.ofNat 32 (10 * tn)) }, false) := if_neg h

/-- A tick counts at every chain. -/
theorem deliverTick_inboxes (s : State) : InboxesOnly (fun _ b => { b with ticks := b.ticks + 1 }) s (deliverTick s) :=
  deliverAll_inboxes _ s

end OtherActivations

/-- Settles O37: the record `activateSite` forms with what it delivers, the new arc map, and the tracker retuned with or
without its tick. -/
theorem activationReachesOtherBlocks : Obligations.ActivationReachesOtherBlocks := by
  refine fun dt p rest s hp => ⟨fun hin => ?site, exec_fastMuteProfileActivation hp,
    exec_trackerProfileActivation_same hp, fun hin hn => ?tracker⟩
  case site =>
    refine ⟨_, activateSite p s.site.record, exec_siteProfileActivation hp hin, activateSite_noReadings,
      fun x hx => ⟨activateSite_formed hx, activateSite_ceiling hx, activateSite_kept hx⟩, ?_, ?_, ?_⟩
    · rw [deliverSite_frame]
    · exact deliverSite_joined _ _
    · rw [deliverSite_frame]
  case tracker =>
    rw [exec_trackerProfileActivation_changed hp hin hn]
    by_cases hd : 10 * p.tn < (trackerTime (elapse dt s) - s.tracker.lastTick).toNat
    · rw [retune_passed (t := { s.tracker with activations := rest }) hd]
      exact ⟨_, true, rfl, (decide_eq_true hd).symm, rfl, deliverTick_inboxes _, rfl⟩
    · rw [retune_ahead (t := { s.tracker with activations := rest }) hd]
      exact ⟨_, false, rfl, (decide_eq_false hd).symm, rfl, fun _ => rfl, rfl⟩

end Sys2Proof.Machine
end

section
/-! PROOFS. The seven reads (R87, R113, R123, R138, R155, R166, R168). -/

namespace Sys2Proof.Machine

section Reads

variable {kind tag : Byte} {n dt : Nat} {command : Nat → List Byte → List Byte → Instr}
  {serve : List Byte → State → State × Answer} {body bytes : List Byte} {s : State}

/-- A request whose owner answers with `bytes` and changes nothing replies with them and leaves the rest of the part as it
was (R166, R168). -/
theorem exec_read (h : CanTake s)
    (he : exec (requestOf command dt ⟨kind, tag, body⟩) s
      = .next (whileRunning (takeRequest kind n serve (frameTail ⟨kind, tag, body⟩)) (elapse dt s)))
    (hb : body.length = n) (hn : n ≤ 248)
    (hs : serve body (requestState dt kind tag s) = (requestState dt kind tag s, .accept bytes)) :
    ∃ t, exec (requestOf command dt ⟨kind, tag, body⟩) s = .next t ∧ LinkFrame dt s t
      ∧ RequestTaken kind tag (acceptance kind tag bytes) s.link.noticePending s t := by
  rw [he, takeRequest_taken h (hb.trans_le hn) hb, hs]
  exact ⟨_, rfl, answer_unchanged h.running fun _ => rfl⟩

/-- IDENTIFY reports the active profile's name and revision, its source, and whether that is the built-in default. -/
theorem identifyBody_eq (s : State) :
    identifyBody s = [0x04, 0x40, 0x01] ++ s.store.active.name ++ bytes16 s.store.active.revision
      ++ (match s.store.source with
          | .slot k => [BitVec.ofNat 8 k.val, 0x00]
          | .builtIn => [0x0F, 0x01]) := by
  rw [identifyBody, List.append_assoc _ (designationBytes _)]
  cases s.store.source <;> rfl

end Reads

/-- Settles O40: each owner answers with its body, read from the state in which the request was taken. -/
theorem readsReplyWithSnapshot : Obligations.ReadsReplyWithSnapshot := by
  refine fun dt tag s h => ⟨?identify, fun b c hb => ?chain, ?site, ?timing, fun b c hb => ?trips, ?capture, ?store⟩
  case identify =>
    exact exec_read (serve := serveIdentify) h rfl rfl (by omega)
      (congrArg (fun bytes => (_, Answer.accept bytes)) (identifyBody_eq _))
  case chain => exact exec_read (serve := serveChain serveReadChain) h rfl rfl (by omega) (serveChain_eq hb)
  case site => exact exec_read (serve := serveReadSite) h rfl rfl (by omega) rfl
  case timing => exact exec_read (serve := serveReadTiming) h rfl rfl (by omega) rfl
  case trips => exact exec_read (serve := serveChain serveReadTrips) h rfl rfl (by omega) (serveChain_eq hb)
  case capture => exact exec_read (serve := serveReadCapture) h rfl rfl (by omega) rfl
  case store => exact exec_read (serve := serveReadStore) h rfl rfl (by omega) rfl

end Sys2Proof.Machine
end

section
/-! PROOFS. Fast pulses (chapter 5): the filters of the lines and the forwarding by the Fast Mute Unit, and what a chain
makes of a pulse and of the end of its coincidence window. -/

namespace Sys2Proof.Machine

/-! ## Pulse filters and forwarding (R88 to R92, R127) -/

section Lines

variable {dt since : Nat} {n : FastLineNo} {high : Bool} {s : State}

/-- An edge moves the line's level and its filter (R88, R89). -/
theorem exec_fastLineEdge (hp : s.phase = .running) (h : fastLevel s.pins n ≠ high) :
    exec (.fastLineEdge dt n high) s
      = .next (setFastLine n
          { fastLine s.fastMute n with filter := filterEdge (s.time + dt) high (fastLine s.fastMute n).filter }
          { elapse dt s with pins := setFastLevel n high s.pins }) :=
  congrArg Host.Outcome.next ((if_neg h).trans (if_pos hp))

theorem exec_markerLineEdge (hp : s.phase = .running) (h : s.pins.fmk ≠ high) :
    exec (.markerLineEdge dt high) s
      = .next (setTracker { s.tracker with filter := filterEdge (s.time + dt) high s.tracker.filter }
          { elapse dt s with pins := { s.pins with fmk := high } }) :=
  congrArg Host.Outcome.next ((if_neg h).trans (if_pos hp))

/-- A line 2 µs low since its pulse accepts another (R89). -/
theorem exec_fastFilterRearm (hp : s.phase = .running) (hl : fastLevel s.pins n = false)
    (hf : (fastLine s.fastMute n).filter = .rearm since) (ht : since + 2 ≤ s.time + dt) :
    exec (.fastFilterRearm dt n) s
      = .next (setFastLine n { fastLine s.fastMute n with filter := .idle } (elapse dt s)) := by
  show Host.Outcome.next (whileRunning _ _) = _
  rw [whileRunning_running hp]
  simp [rearmFast, rearmDue, fastMicros, hf, hl, ht]

theorem exec_markerFilterRearm (hp : s.phase = .running) (hl : s.pins.fmk = false)
    (hf : s.tracker.filter = .rearm since) (ht : since + 1 ≤ s.time + dt) :
    exec (.markerFilterRearm dt) s = .next (setTracker { s.tracker with filter := .idle } (elapse dt s)) := by
  show Host.Outcome.next (whileRunning _ _) = _
  rw [whileRunning_running hp]
  simp [rearmMarker, rearmDue, markerMicros, hf, hl, ht]

/-- A line 2 µs high qualifies a pulse, stamped with the instant at which it had been (R89, R90). -/
theorem exec_fastLineQualify (hp : s.phase = .running) (hl : fastLevel s.pins n = true)
    (hf : (fastLine s.fastMute n).filter = .timing since) (ht : since + 2 ≤ s.time + dt) :
    exec (.fastLineQualify dt n) s
      = .next (forwardPulse n (stampOf s (since + 2))
          (setFastLine n { filter := .held, count := bump (fastLine s.fastMute n).count } (elapse dt s))) := by
  have hq : qualifiesAt fastMicros (s.time + dt) (.timing since) = some (since + 2) := if_pos ht
  show Host.Outcome.next (whileRunning _ _) = _
  rw [whileRunning_running hp]
  simp only [qualifyFast, elapse_fastMute, elapse_pins, elapse_time, hf, hq, hl, if_true]
  rfl

/-- An arc pulse joins the inboxes of the chains in its line's set (R91). -/
theorem forwardArc_inboxes (k : Fin 8) (stamp : PulseStamp) (s : State) :
    InboxesOnly
      (fun c b => if inSet (s.fastMute.arcMap.get k) c then { b with arcs := b.arcs ++ [⟨k, stamp⟩] } else b) s
      (forwardArc k stamp s) := by
  intro c
  simp only [forwardArc, Quad.get_ofFn]
  split <;> rfl

/-- A surge joins the inbox of its own chain (R92). -/
theorem forwardSurge_chain (c : ChainNo) (stamp : PulseStamp) (s : State) :
    (forwardSurge c stamp s).chains.get c
      = { s.chains.get c with inbox := { inboxOf s c with surges := (inboxOf s c).surges ++ [stamp] } } :=
  Quad.get_set_same _ _ _

theorem forwardSurge_others {c d : ChainNo} (stamp : PulseStamp) (s : State) (h : d ≠ c) :
    (forwardSurge c stamp s).chains.get d = s.chains.get d :=
  Quad.get_set_other _ _ h

end Lines

/-- Settles O31: the three kinds of line share one filter. -/
theorem pulseFiltersFollowLines : Obligations.PulseFiltersFollowLines := by
  refine ⟨fun dt s high f f' hp hedge => ?edge, fun dt since s hp => ?rearm⟩
  case edge =>
    have hf' : filterEdge (s.time + dt) high f = f' := by
      cases f <;> cases high <;> exact hedge.symm
    refine ⟨fun k h hf => ?_, fun c h hf => ?_, fun h hf => ?_⟩
    · rw [exec_fastLineEdge (n := .arc k) hp h, ← hf', ← hf]
      rfl
    · rw [exec_fastLineEdge (n := .surge c) hp h, ← hf', ← hf]
      rfl
    · rw [exec_markerLineEdge hp h, ← hf', ← hf]
      rfl
  case rearm =>
    exact ⟨fun k => exec_fastFilterRearm (n := .arc k) hp, fun c => exec_fastFilterRearm (n := .surge c) hp,
      exec_markerFilterRearm hp⟩

/-- Settles O32: the line's count and filter, and the chains that the pulse reaches. -/
theorem qualifiedPulsesAreForwarded : Obligations.QualifiedPulsesAreForwarded := by
  refine ⟨fun dt since k s hp hl hf ht => ?arc, fun dt since c s hp hl hf ht => ?surge⟩
  case arc =>
    exact ⟨_, exec_fastLineQualify (n := .arc k) hp hl hf ht, rfl, forwardArc_inboxes k _ _, rfl⟩
  case surge =>
    exact ⟨_, exec_fastLineQualify (n := .surge c) hp hl hf ht, rfl, forwardSurge_chain c _ _,
      fun _ => forwardSurge_others _ _, rfl⟩

/-! ## What a chain makes of a pulse (R93 to R97, R100, R101) -/

section Records

variable {now ends : Nat} {p : Profile} {x : ArcPulse} {y : PulseStamp} {run : RunState} {cause : TripCause}
  {snap : Snapshot} {r : ChainRecord}

/-- The first pulse mutes a running chain (R93, R94, R95). -/
theorem arcRecord_run (h : runState r.mode = some run) :
    arcRecord now p x r = mutedRecord .arcFlash .arc (some x.line) run p.coincidence x.stamp r := by
  obtain ⟨hm, rfl⟩ | ⟨hm, rfl⟩ := runState_cases h <;> simp only [arcRecord, hm] <;> rfl

theorem surgeRecord_run (h : runState r.mode = some run) :
    surgeRecord p y r = mutedRecord .surge .surge none run p.coincidence y r := by
  obtain ⟨hm, rfl⟩ | ⟨hm, rfl⟩ := runState_cases h <;> simp only [surgeRecord, hm] <;> rfl

/-- A pulse in CLASSIFY leaves the window and A (R96, R97). -/
theorem arcRecord_classify (h : r.mode = .classify cause snap ends) :
    arcRecord now p x r
      = { r with mode := .classify (arcInClassify x.line cause snap).1 (arcInClassify x.line cause snap).2 ends } := by
  simp only [arcRecord, h]

theorem surgeRecord_classify (h : r.mode = .classify cause snap ends) :
    surgeRecord p y r = { r with mode := .classify (surgeInClassify cause) snap ends } := by
  simp only [surgeRecord, h]

/-- An arc pulse in HOLDOFF restarts the dwell (R100). -/
theorem arcRecord_holdoff {d : Dwell} (h : r.mode = .holdoff cause d) :
    arcRecord now p x r = { r with mode := .holdoff cause ⟨d.lengths, now, d.lengths.ticks⟩ } := by
  simp only [arcRecord, h, restartDwell]

/-- Pulses that a chain ignores (R101). -/
theorem arcRecord_ignored (h : modeState r.mode ∈ [ChainState.qualify, .disabled, .lockout]) :
    arcRecord now p x r = r := by
  cases hm : r.mode <;> simp [hm, modeState] at h <;> simp only [arcRecord, hm]

theorem surgeRecord_ignored (h : modeState r.mode ∈ [ChainState.holdoff, .qualify, .disabled, .lockout]) :
    surgeRecord p y r = r := by
  cases hm : r.mode <;> simp [hm, modeState] at h <;> simp only [surgeRecord, hm]

end Records

section Pulses

variable {dt : Nat} {c : ChainNo} {s : State}

/-- A qualified arc pulse taken by a chain commits what `arcRecord` makes of its record, and nothing else. -/
theorem qualifiedArcPulse_event {x : ArcPulse} {rest : List ArcPulse} (hp : s.phase = .running)
    (h : (inboxOf s c).arcs = x :: rest) :
    ∃ t, exec (.qualifiedArcPulse dt c) s = .next t ∧ ChainNotices c s t
      ∧ ChainFrame dt c
          { s.chains.get c with
            record := arcRecord (s.time + dt) (profileOf s c) x (recordOf s c)
            inbox := { inboxOf s c with arcs := rest } }
          s.capture.handed s t := by
  obtain ⟨hf, hn⟩ := finishCommit_event (dt := dt) (c := c) (b := { inboxOf s c with arcs := rest })
    (r := arcRecord (s.time + dt) (profileOf s c) x (recordOf s c)) hp rfl
  refine ⟨_, ?_, hn, hf⟩
  show Host.Outcome.next (whileRunning _ _) = _
  rw [whileRunning_running hp]
  simp only [arcEvent, elapse_inboxOf, h]
  rfl

/-- A qualified surge taken by a chain commits what `surgeRecord` makes of its record, and nothing else. -/
theorem qualifiedSurge_event {x : PulseStamp} {rest : List PulseStamp} (hp : s.phase = .running)
    (h : (inboxOf s c).surges = x :: rest) :
    ∃ t, exec (.qualifiedSurge dt c) s = .next t ∧ ChainNotices c s t
      ∧ ChainFrame dt c
          { s.chains.get c with
            record := surgeRecord (profileOf s c) x (recordOf s c)
            inbox := { inboxOf s c with surges := rest } }
          s.capture.handed s t := by
  obtain ⟨hf, hn⟩ := finishCommit_event (dt := dt) (c := c) (b := { inboxOf s c with surges := rest })
    (r := surgeRecord (profileOf s c) x (recordOf s c)) hp rfl
  refine ⟨_, ?_, hn, hf⟩
  show Host.Outcome.next (whileRunning _ _) = _
  rw [whileRunning_running hp]
  simp only [surgeEvent, elapse_inboxOf, h]
  rfl

end Pulses

/-- Settles O20: the first pulse of either kind mutes a running chain. -/
theorem fastPulseMutesRunningChain : Obligations.FastPulseMutesRunningChain := by
  refine ⟨fun dt c x rest run s hp hin hm => ?arc, fun dt c x rest run s hp hin hm => ?surge⟩
  case arc =>
    obtain ⟨t, he, hn, hf⟩ := qualifiedArcPulse_event (dt := dt) hp hin
    rw [arcRecord_run hm] at hf
    exact ⟨t, he, hn, inhibit_asserted hf rfl, hf⟩
  case surge =>
    obtain ⟨t, he, hn, hf⟩ := qualifiedSurge_event (dt := dt) hp hin
    rw [surgeRecord_run hm] at hf
    exact ⟨t, he, hn, inhibit_asserted hf rfl, hf⟩

/-- Settles O21: the provisional cause decides whether the pulse brings the other sign. -/
theorem coincidenceConfirmsArc : Obligations.CoincidenceConfirmsArc := by
  refine ⟨fun dt c x rest cause snap ends s hp hin hm => ?surge, fun dt c x rest cause snap ends s hp hin hm => ?arc⟩
  case surge =>
    obtain ⟨t, he, hn, hf⟩ := qualifiedSurge_event (dt := dt) hp hin
    rw [surgeRecord_classify hm] at hf
    exact ⟨t, _, he, hn, inhibit_asserted hf rfl, fun h => if_pos h, fun h => if_neg h, hf⟩
  case arc =>
    obtain ⟨t, he, hn, hf⟩ := qualifiedArcPulse_event (dt := dt) hp hin
    rw [arcRecord_classify hm] at hf
    refine ⟨t, _, _, he, hn, inhibit_asserted hf rfl, fun h => ?_, fun h => ?_, hf⟩
    · rw [arcInClassify, if_pos h]
      exact ⟨rfl, rfl⟩
    · rw [arcInClassify, if_neg h]
      exact ⟨rfl, rfl⟩

/-- Settles O22: the dwell restarts in HOLDOFF, and an ignored pulse only leaves the inbox. -/
theorem latePulseOnlyRestartsDwell : Obligations.LatePulseOnlyRestartsDwell := by
  refine ⟨fun dt c x rest s hp hin => ?arc, fun dt c x rest s hp hin hm => ?surge⟩
  case arc =>
    obtain ⟨t, he, hn, hf⟩ := qualifiedArcPulse_event (dt := dt) hp hin
    refine ⟨t, he, hn, fun cause d hm => ?_, fun hm => ?_⟩
    · rw [arcRecord_holdoff hm] at hf
      exact hf
    · rw [arcRecord_ignored hm] at hf
      exact hf
  case surge =>
    obtain ⟨t, he, hn, hf⟩ := qualifiedSurge_event (dt := dt) hp hin
    rw [surgeRecord_ignored hm] at hf
    exact ⟨t, he, hn, hf⟩

/-! ## The end of the coincidence window (R99, R106, R109) -/

theorem exec_windowExpiry {dt ends : Nat} {c : ChainNo} {cause : TripCause} {snap : Snapshot} {s : State}
    (hp : s.phase = .running) (hm : (recordOf s c).mode = .classify cause snap ends) (he : ends ≤ s.time + dt) :
    exec (.windowExpiry dt c) s
      = .next (finish (commitChain c
          (enterHoldoff (s.time + dt) (profileOf s c) cause
            { recordOf s c with tripList := fastTripList cause snap (recordOf s c) })
          (handRecord (chainSource c) (fastCapture c cause snap (fastTripList cause snap (recordOf s c)))
            (elapse dt s)))) := by
  show Host.Outcome.next (whileRunning _ _) = _
  rw [whileRunning_running hp]
  simp only [expireWindow, elapse_recordOf, hm, elapse_time, he, if_true]
  rfl

/-- A capture record handed over at `dt` after `s`, chain `c` standing as it did. -/
theorem handRecord_elapse (dt : Nat) (c : ChainNo) (x : CaptureRecord) (s : State) :
    handRecord (chainSource c) x (elapse dt s) = { s with
      time := s.time + dt
      chains := s.chains.set c { s.chains.get c with inbox := inboxOf s c, profile := profileOf s c }
      capture := { s.capture with handed := handedBy c (s.time + dt) x s } } := by
  have hc : s.chains.set c { s.chains.get c with inbox := inboxOf s c, profile := profileOf s c } = s.chains :=
    Quad.set_get s.chains c
  rw [hc]
  rfl

/-- Settles O23: each of the three causes has its weight and its dwell, and the trip is committed with them. -/
theorem windowExpiryMakesCauseFinal : Obligations.WindowExpiryMakesCauseFinal := by
  intro dt c cause snap ends weight lengths s hp hm he hw
  obtain ⟨k, hk, hlen, hweight⟩ : ∃ k, causeClass cause = some k ∧ lengths = dwellOf (profileOf s c) k
      ∧ (cause = .arcConfirmed ∧ weight = 2 ∨ (cause = .arcFlash ∨ cause = .surge) ∧ weight = 1) := by
    obtain ⟨rfl, rfl, rfl⟩ | ⟨rfl, rfl, rfl⟩ | ⟨rfl, rfl, rfl⟩ := hw
    · exact ⟨.arc, rfl, rfl, .inl ⟨rfl, rfl⟩⟩
    · exact ⟨.flash, rfl, rfl, .inr ⟨.inl rfl, rfl⟩⟩
    · exact ⟨.surge, rfl, rfl, .inr ⟨.inr rfl, rfl⟩⟩
  obtain ⟨hlist, hsum⟩ := fastTripList_of_cause (snap := snap) (r := recordOf s c) hweight
  obtain ⟨hf, hn⟩ := finishCommit_frame
    (r := trippedRecord cause lengths (s.time + dt) (fastTripList cause snap (recordOf s c)) (recordOf s c)) hp
    (handRecord_elapse dt c (fastCapture c cause snap (fastTripList cause snap (recordOf s c))) s)
  refine ⟨_, ?_, hn, inhibit_asserted hf rfl, ?_⟩
  · rw [exec_windowExpiry hp hm he, enterHoldoff_to hk, hlen]
    rfl
  · rw [← hlist, ← hsum]
    exact hf

end Sys2Proof.Machine
end

section
/-! PROOFS. What the bounds of O58 depend on: the Capture Queue's records and numbering, the tracker's period and state.
The operations and events that leave them as they were. -/

namespace Sys2Proof.Machine

/-- The records and the next number of the Capture Queue, the tracker's nominal period and its state. -/
def queueTracker (s : State) : List QueuedRecord × Word16 × Nat × TrackerMode :=
  (s.capture.records, s.capture.next, s.tracker.tn, s.tracker.mode)

/-! ## The shared operations -/

@[simp] theorem raiseSite_queueTracker (s : State) : queueTracker (raiseSite s) = queueTracker s := by
  rw [raiseSite_frame]
  rfl

@[simp] theorem setAlarms_queueTracker (a : AlarmReasons) (s : State) :
    queueTracker (setAlarms a s) = queueTracker s := by
  rw [setAlarms_frame]
  rfl

@[simp] theorem startWrite_queueTracker (s : State) : queueTracker (startWrite s) = queueTracker s := by
  rw [startWrite_frame]
  rfl

@[simp] theorem commitChain_queueTracker (c : ChainNo) (r : ChainRecord) (s : State) :
    queueTracker (commitChain c r s) = queueTracker s := by
  rw [commitChain_frame]
  rfl

@[simp] theorem finish_queueTracker (s : State) : queueTracker (finish s) = queueTracker s := by
  rw [finish_frame]
  rfl

@[simp] theorem setSite_queueTracker (r : SiteRecord) (s : State) : queueTracker (setSite r s) = queueTracker s := rfl

@[simp] theorem setSiteIntake_queueTracker (l : List (IntakeEvent SiteReadings)) (s : State) :
    queueTracker (setSiteIntake l s) = queueTracker s := rfl

@[simp] theorem deliverSite_queueTracker (x : SiteDelivery) (s : State) :
    queueTracker (deliverSite x s) = queueTracker s := by
  rw [deliverSite_frame]
  rfl

@[simp] theorem setFastLine_queueTracker (n : FastLineNo) (l : FastLine) (s : State) :
    queueTracker (setFastLine n l s) = queueTracker s := by
  cases n <;> rfl

@[simp] theorem forwardPulse_queueTracker (n : FastLineNo) (stamp : PulseStamp) (s : State) :
    queueTracker (forwardPulse n stamp s) = queueTracker s := by
  cases n <;> rfl

@[simp] theorem acceptFrame_queueTracker (g : GroupNo) (header : Word16) (fields : List Word16) (s : State) :
    queueTracker (acceptFrame g header fields s) = queueTracker s := by
  cases g <;> rfl

/-! ## The Measurement Intake -/

theorem sampleFrameEvent_queueTracker (bits : List Bool) (s : State) :
    queueTracker (sampleFrameEvent bits s) = queueTracker s := by
  have hend : ∀ g x, queueTracker (endFrame bits g x s) = queueTracker s := by
    intro g x
    unfold endFrame
    extract_lets s1
    split
    · rfl
    · exact acceptFrame_queueTracker _ _ _ s1
  unfold sampleFrameEvent
  split
  · split
    · split
      · exact hend _ _
      · rfl
    · rfl
  · rfl

theorem discardGroup_queueTracker (bits : List Bool) (s : State) :
    queueTracker (discardGroup bits s) = queueTracker s := by
  unfold discardGroup
  split <;> rfl

theorem restartFrame_queueTracker (bits : List Bool) (s : State) :
    queueTracker (restartFrame bits s) = queueTracker s := by
  unfold restartFrame
  split <;> rfl

theorem timeOutFrame_queueTracker (bits : List Bool) (quiet : Nat) (s : State) :
    queueTracker (timeOutFrame bits quiet s) = queueTracker s := by
  unfold timeOutFrame
  split
  · split <;> rfl
  · rfl

theorem matchSync_queueTracker (bits : List Bool) (s : State) : queueTracker (matchSync bits s) = queueTracker s := by
  unfold matchSync
  split
  · split <;> rfl
  · rfl

theorem reachStale_queueTracker (g : GroupNo) (s : State) : queueTracker (reachStale g s) = queueTracker s := by
  unfold reachStale
  split <;> split <;> rfl

theorem reachLost_queueTracker (g : GroupNo) (s : State) : queueTracker (reachLost g s) = queueTracker s := by
  unfold reachLost
  split <;> split <;> rfl

theorem edgeFlow_queueTracker (c : ChainNo) (high : Bool) (s : State) :
    queueTracker (edgeFlow c high s) = queueTracker s := by
  unfold edgeFlow whileRunning
  split
  · rfl
  · split <;> rfl

theorem qualifyFlow_queueTracker (c : ChainNo) (s : State) : queueTracker (qualifyFlow c s) = queueTracker s := by
  unfold qualifyFlow
  dsimp only
  split <;> rfl

theorem rearmFlow_queueTracker (c : ChainNo) (s : State) : queueTracker (rearmFlow c s) = queueTracker s := by
  unfold rearmFlow
  dsimp only
  split <;> rfl

theorem endGate_queueTracker (s : State) : queueTracker (endGate s) = queueTracker s := by
  unfold endGate
  split <;> rfl

/-! ## The Fast Mute Unit and the marker line's filter -/

theorem edgeFast_queueTracker (n : FastLineNo) (high : Bool) (s : State) :
    queueTracker (edgeFast n high s) = queueTracker s := by
  unfold edgeFast whileRunning
  split
  · rfl
  · split
    · rw [setFastLine_queueTracker]
      rfl
    · rfl

theorem qualifyFast_queueTracker (n : FastLineNo) (s : State) : queueTracker (qualifyFast n s) = queueTracker s := by
  unfold qualifyFast
  dsimp only
  split
  · split
    · rw [forwardPulse_queueTracker, setFastLine_queueTracker]
    · rfl
  · rfl

theorem rearmFast_queueTracker (n : FastLineNo) (s : State) : queueTracker (rearmFast n s) = queueTracker s := by
  unfold rearmFast
  dsimp only
  split
  · exact setFastLine_queueTracker _ _ _
  · rfl

theorem fastMuteActivationEvent_queueTracker (s : State) :
    queueTracker (fastMuteActivationEvent s) = queueTracker s := by
  unfold fastMuteActivationEvent
  split <;> rfl

theorem edgeMarker_queueTracker (high : Bool) (s : State) : queueTracker (edgeMarker high s) = queueTracker s := by
  unfold edgeMarker whileRunning
  split
  · rfl
  · split <;> rfl

theorem rearmMarker_queueTracker (s : State) : queueTracker (rearmMarker s) = queueTracker s := by
  unfold rearmMarker
  split <;> rfl

/-! ## The interlock, the Site Monitor's activation, the level bus and the load timer -/

theorem edgeInterlock_queueTracker (high : Bool) (s : State) :
    queueTracker (edgeInterlock high s) = queueTracker s := by
  unfold edgeInterlock whileRunning
  split
  · rfl
  · split <;> rfl

theorem closingEvent_queueTracker (c : ChainNo) (s : State) :
    queueTracker (closingEvent c s) = queueTracker s := by
  unfold closingEvent
  split <;> rfl

theorem siteActivationEvent_queueTracker (s : State) : queueTracker (siteActivationEvent s) = queueTracker s := by
  unfold siteActivationEvent
  split
  · rfl
  · unfold takeSiteActivation
    rw [deliverSite_queueTracker]
    rfl

theorem transferEvent_queueTracker (s : State) : queueTracker (transferEvent s) = queueTracker s := by
  unfold transferEvent
  split
  · split <;> rfl
  · rfl

theorem loadTimerEvent_queueTracker (s : State) : queueTracker (loadTimerEvent s) = queueTracker s := by
  unfold loadTimerEvent
  split
  · split <;> rfl
  · rfl

/-! ## The Control Link -/

theorem startFrame_queueTracker (skipped : List Byte) (s : State) :
    queueTracker (startFrame skipped s) = queueTracker s := by
  unfold startFrame
  split <;> rfl

theorem framingErrorEvent_queueTracker (character : List Bool) (s : State) :
    queueTracker (framingErrorEvent character s) = queueTracker s := by
  unfold framingErrorEvent
  split <;> rfl

theorem discardFrame_queueTracker (frame : List Byte) (s : State) :
    queueTracker (discardFrame frame s) = queueTracker s := by
  unfold discardFrame
  split <;> rfl

theorem gapEvent_queueTracker (frame : List Byte) (quiet : Nat) (s : State) :
    queueTracker (gapEvent frame quiet s) = queueTracker s := by
  unfold gapEvent
  split
  · split <;> rfl
  · rfl

@[simp] theorem produceReply_queueTracker (kind tag : Byte) (a : Answer) (s : State) :
    queueTracker (produceReply kind tag a s) = queueTracker s := by
  cases a <;> rfl

@[simp] theorem overlapSlot_queueTracker (kind tag : Byte) (s : State) :
    queueTracker (overlapSlot kind tag s) = queueTracker s := by
  unfold overlapSlot
  split <;> rfl

@[simp] theorem makeActive_queueTracker (d : Designation) (p : Profile) (s : State) :
    queueTracker (makeActive d p s) = queueTracker s := by
  unfold makeActive setDefaultReason
  rw [setAlarms_queueTracker]
  rfl

@[simp] theorem persistDirectory_queueTracker (persist : Bool) (d : Designation) (s : State) :
    queueTracker (persistDirectory persist d s) = queueTracker s := by
  unfold persistDirectory requestDirectoryWrite
  split
  · rw [startWrite_queueTracker]
    rfl
  · rfl

@[simp] theorem commitImage_queueTracker (k : Fin 3) (image : List Byte) (s : State) :
    queueTracker (commitImage k image s) = queueTracker s := by
  unfold commitImage requestSlotWrite
  rw [startWrite_queueTracker]
  rfl

end Sys2Proof.Machine
end

section
/-! PROOFS. What every step keeps of the Capture Queue, the tracker and a recent trip list, and what keeps each. -/

namespace Sys2Proof.Machine

/-! ## The Capture Queue (R120, R121, R124) -/

/-- The records' sequence numbers rise by one, modulo 65,536, up to the one before `n`. -/
def Consecutive (l : List QueuedRecord) (n : Word16) : Prop :=
  ∀ k, (h : k < l.length) → (l[k]).sequence + BitVec.ofNat 16 (l.length - k) = n

theorem captureSafe_iff (s : State) :
    CaptureSafe s ↔ s.capture.records.length ≤ 16 ∧ Consecutive s.capture.records s.capture.next :=
  ⟨fun h => ⟨h.bounded, h.consecutive⟩, fun h => ⟨h.1, h.2⟩⟩

/-- The oldest record leaves. -/
theorem Consecutive.tail {l : List QueuedRecord} {n : Word16} (h : Consecutive l n) : Consecutive l.tail n := by
  intro k hk
  have hk' : k + 1 < l.length := by
    rw [List.length_tail] at hk
    omega
  have e : l.tail.length - k = l.length - (k + 1) := by
    rw [List.length_tail]
    omega
  rw [List.getElem_tail, e]
  exact h (k + 1) hk'

/-- A record with the next number joins. -/
theorem Consecutive.join {l : List QueuedRecord} {n : Word16} (h : Consecutive l n) (gap : Bool) (x : CaptureRecord) :
    Consecutive (l ++ [⟨n, gap, x⟩]) (n + 1) := by
  intro k hk
  rw [List.length_append, List.length_singleton] at hk ⊢
  rw [List.getElem_append]
  split
  · next hl =>
    have e : l.length + 1 - k = (l.length - k) + 1 := by omega
    rw [e, BitVec.ofNat_add, ← BitVec.add_assoc, h k hl]
    rfl
  · next hl =>
    have e : l.length + 1 - k = 1 := by omega
    have e' : k - l.length = 0 := by omega
    simp only [e, e', List.getElem_singleton]
    rfl

/-- Where a record joins, the oldest of 16 leaves first. -/
theorem joinQueue_records (x : CaptureRecord) (q : CaptureQueue) :
    (joinQueue x q).records
      = (if q.records.length < 16 then q.records else q.records.tail)
        ++ [⟨q.next, decide (16 ≤ q.records.length), x⟩] := by
  by_cases h : q.records.length < 16
  · simp [joinQueue, captureCapacity, h, Nat.not_le.mpr h]
  · simp [joinQueue, captureCapacity, h, Nat.not_lt.mp h]

theorem CaptureSafe.join {s t : State} (h : CaptureSafe s) (x : CaptureRecord)
    (hr : t.capture.records = (joinQueue x s.capture).records) (hn : t.capture.next = s.capture.next + 1) :
    CaptureSafe t := by
  obtain ⟨hb, hc⟩ := (captureSafe_iff s).mp h
  rw [captureSafe_iff, hr, hn, joinQueue_records]
  split
  · next hl =>
    refine ⟨?_, hc.join _ x⟩
    rw [List.length_append, List.length_singleton]
    omega
  · refine ⟨?_, hc.tail.join _ x⟩
    rw [List.length_append, List.length_singleton, List.length_tail]
    omega

/-! ## The tracker (R130, R132, R134) -/

/-- `TrackerSafe` of the tracker alone. -/
def TrackerBounded (t : Tracker) : Prop :=
  match t.mode with
  | .search _ good _ => good < 4
  | .locked pe misses =>
    10 * t.tn - 10 * t.tn / 8 ≤ pe ∧ pe ≤ 10 * t.tn + 10 * t.tn / 8 ∧ misses < 8

theorem trackerSafe_iff (s : State) : TrackerSafe s ↔ TrackerBounded s.tracker := Iff.rfl

theorem trackerBounded_congr {t u : Tracker} (hn : u.tn = t.tn) (hm : u.mode = t.mode) :
    TrackerBounded u ↔ TrackerBounded t := by
  unfold TrackerBounded
  rw [hn, hm]

theorem trackerBounded_search {t : Tracker} {previous : Option Word32} {good : Nat} {due : Word32}
    (hm : t.mode = .search previous good due) : TrackerBounded t ↔ good < 4 := by
  unfold TrackerBounded
  rw [hm]

theorem trackerBounded_locked {t : Tracker} {pe misses : Nat} (hm : t.mode = .locked pe misses) :
    TrackerBounded t ↔
      (10 * t.tn - 10 * t.tn / 8 ≤ pe ∧ pe ≤ 10 * t.tn + 10 * t.tn / 8) ∧ misses < 8 := by
  unfold TrackerBounded
  rw [hm]
  exact and_assoc.symm

/-- A clamped value lies within τ of Tnu (R132). -/
theorem clampBand_within (tnu : Nat) (x : Int) : tnu - tnu / 8 ≤ clampBand tnu x ∧ clampBand tnu x ≤ tnu + tnu / 8 := by
  unfold clampBand tolerance
  omega

/-- A marker brings the good count at most one further (R129). -/
theorem goodCount_le (tnu : Nat) (now : Word32) (previous : Option Word32) (good : Nat) :
    goodCount tnu now previous good ≤ good + 1 := by
  unfold goodCount
  split
  · exact Nat.le_succ _
  · split
    · exact le_refl _
    · exact Nat.zero_le _

theorem searchMarker_bounded (now : Word32) (previous : Option Word32) {good : Nat} (due : Word32) (t : Tracker)
    (h : good < 4) : TrackerBounded (searchMarker now previous good due t).1 := by
  unfold searchMarker
  extract_lets tnu g
  split
  · next m =>
    have hg : g ≤ good + 1 := goodCount_le _ _ _ _
    split
    · exact (trackerBounded_locked rfl).mpr ⟨clampBand_within _ _, by omega⟩
    · next hne =>
      have hne : g ≠ 4 := hne
      exact (trackerBounded_search rfl).mpr (by omega)
  · exact (trackerBounded_search rfl).mpr h

theorem lockedMarker_bounded (now : Word32) {pe misses : Nat} {t : Tracker}
    (hpe : 10 * t.tn - 10 * t.tn / 8 ≤ pe ∧ pe ≤ 10 * t.tn + 10 * t.tn / 8) (hm : misses < 8) :
    TrackerBounded (lockedMarker now pe misses t).1 := by
  unfold lockedMarker
  extract_lets i
  split
  · exact (trackerBounded_locked rfl).mpr ⟨clampBand_within _ _, by omega⟩
  · exact (trackerBounded_locked rfl).mpr ⟨hpe, hm⟩

theorem markTracker_bounded (now : Word32) {t : Tracker} (h : TrackerBounded t) :
    TrackerBounded (markTracker now t).1 := by
  unfold markTracker
  extract_lets t1
  split
  · next hm => exact searchMarker_bounded _ _ _ _ ((trackerBounded_search hm).mp h)
  · next hm =>
    obtain ⟨hpe, hmiss⟩ := (trackerBounded_locked hm).mp h
    exact lockedMarker_bounded (t := t1) _ hpe hmiss

/-- The eighth missed window in a row returns the tracker to SEARCH (R134). -/
theorem missWindow_bounded {pe misses : Nat} {t : Tracker}
    (hpe : 10 * t.tn - 10 * t.tn / 8 ≤ pe ∧ pe ≤ 10 * t.tn + 10 * t.tn / 8) :
    TrackerBounded (missWindow pe misses t) := by
  unfold missWindow
  extract_lets expected t1
  split
  · next h => exact (trackerBounded_locked rfl).mpr ⟨hpe, h⟩
  · exact (trackerBounded_search rfl).mpr (by omega)

theorem retune_bounded (now : Word32) (tn : Nat) (t : Tracker) : TrackerBounded (retune now tn t).1 := by
  unfold retune
  extract_lets t1
  split <;> exact (trackerBounded_search rfl).mpr (by omega)

/-! ## A recent trip list (R113) -/

/-- Every entry has weight 1 or 2. -/
def Weighted (l : List TripEntry) : Prop := ∀ e ∈ l, causeWeight e.cause = 1 ∨ causeWeight e.cause = 2

/-- At most 8 entries, at most 7 where a trip may yet find the chain, each of weight 1 or 2. -/
structure TripsBounded (r : ChainRecord) : Prop where
  length   : r.tripList.length ≤ if mayTrip r.mode then 7 else 8
  weighted : Weighted r.tripList

theorem tripsSafe_iff (s : State) : TripsSafe s ↔ ∀ c, TripsBounded (recordOf s c) :=
  ⟨fun h c => ⟨(h c).1, (h c).2⟩, fun h c => ⟨(h c).length, (h c).weighted⟩⟩

theorem TripsBounded.length_le {r : ChainRecord} (h : TripsBounded r) : r.tripList.length ≤ 8 := by
  have := h.length
  split at this <;> omega

theorem TripsBounded.length_lt {r : ChainRecord} (h : TripsBounded r) (hm : mayTrip r.mode = true) :
    r.tripList.length ≤ 7 := by
  have := h.length
  rwa [if_pos hm] at this

/-- A list of at most 7 entries is bounded in every state. -/
theorem tripsBounded_short {r : ChainRecord} (hl : r.tripList.length ≤ 7) (hw : Weighted r.tripList) :
    TripsBounded r := ⟨by split <;> omega, hw⟩

/-- A list of at most 8 entries is bounded where no trip may find the chain. -/
theorem tripsBounded_settled {r : ChainRecord} (hm : mayTrip r.mode = false) (hl : r.tripList.length ≤ 8)
    (hw : Weighted r.tripList) : TripsBounded r := ⟨by simpa [hm] using hl, hw⟩

/-- A record with the same list, in a state in which a trip finds the chain only if it did before. -/
theorem TripsBounded.kept {r r' : ChainRecord} (h : TripsBounded r) (hl : r'.tripList = r.tripList)
    (hm : mayTrip r'.mode = true → mayTrip r.mode = true) : TripsBounded r' := by
  refine ⟨?_, by rw [hl]; exact h.weighted⟩
  rw [hl]
  split
  · next h' => exact h.length_lt (hm h')
  · exact h.length_le

/-- A cause's weight is 0, 1 or 2 (Table 6-1). -/
theorem causeWeight_cases (k : TripCause) : causeWeight k = 0 ∨ causeWeight k = 1 ∨ causeWeight k = 2 := by
  cases k <;> simp [causeWeight]

theorem Weighted.appendTrip {l : List TripEntry} (h : Weighted l) (cause : TripCause) (tripTime : Word32) :
    Weighted (appendTrip cause tripTime l) := by
  unfold Machine.appendTrip
  split
  · exact h
  · next hne =>
    intro e he
    rcases List.mem_append.mp he with he | he
    · exact h e he
    · cases List.mem_singleton.mp he
      exact (causeWeight_cases cause).resolve_left hne

theorem appendTrip_length_le (cause : TripCause) (tripTime : Word32) (l : List TripEntry) :
    (appendTrip cause tripTime l).length ≤ l.length + 1 := by
  unfold appendTrip
  split <;> simp

theorem Weighted.ageList {l : List TripEntry} (h : Weighted l) (p : Profile) (clock : Word32) :
    Weighted (ageList p clock l) := fun e he => h e (List.mem_of_mem_filter he)

theorem ageList_length_le (p : Profile) (clock : Word32) (l : List TripEntry) :
    (ageList p clock l).length ≤ l.length := List.length_filter_le _ _

/-- A list has no more entries than its weight sum. -/
theorem Weighted.length_le_sum {l : List TripEntry} (h : Weighted l) : l.length ≤ weightSum l := by
  induction l with
  | nil => exact Nat.zero_le _
  | cons e l ih =>
    have he := h e List.mem_cons_self
    have hl := ih fun x hx => h x (List.mem_cons_of_mem e hx)
    simp only [weightSum, List.map_cons, List.sum_cons, List.length_cons] at hl ⊢
    omega

/-- A weight sum below a lockout limit of at most 8 leaves at most 7 entries. -/
theorem Weighted.length_of_free {l : List TripEntry} {limit : Nat} (h : Weighted l) (hL : limit ≤ 8)
    (hs : ¬ limit ≤ weightSum l) : l.length ≤ 7 := by
  have := h.length_le_sum
  omega

/-- Aged entries leave. -/
theorem TripsBounded.aged {r : ChainRecord} (h : TripsBounded r) (p : Profile) (clock : Word32) :
    TripsBounded { r with tripList := ageList p clock r.tripList } :=
  ⟨(ageList_length_le p clock r.tripList).trans h.length, h.weighted.ageList p clock⟩

/-- The one entry a trip brings, where the chain had room for it. -/
theorem TripsBounded.tripped {r r' : ChainRecord} (h : TripsBounded r) (hm : mayTrip r.mode = true)
    {cause : TripCause} {tripTime : Word32} (hl : r'.tripList = appendTrip cause tripTime r.tripList)
    (hm' : mayTrip r'.mode = false) : TripsBounded r' := by
  have h7 := h.length_lt hm
  have h1 := appendTrip_length_le cause tripTime r.tripList
  exact tripsBounded_settled hm' (by rw [hl]; omega) (by rw [hl]; exact h.weighted.appendTrip _ _)

/-! ### The records the rules build -/

theorem followComposition_trips (r : ChainRecord) :
    (followComposition r).tripList = r.tripList ∧ mayTrip (followComposition r).mode = mayTrip r.mode := by
  unfold followComposition
  split
  · next hm =>
    split
    · exact ⟨rfl, by rw [hm]; rfl⟩
    · exact ⟨rfl, rfl⟩
  · exact ⟨rfl, rfl⟩
  · exact ⟨rfl, rfl⟩

theorem TripsBounded.followComposition {r : ChainRecord} (h : TripsBounded r) :
    TripsBounded (followComposition r) := by
  obtain ⟨hl, hm⟩ := followComposition_trips r
  exact h.kept hl fun h' => hm ▸ h'

/-- A recomposition after a change of components. -/
theorem TripsBounded.recompose {r r' : ChainRecord} (h : TripsBounded r) (hl : r'.tripList = r.tripList)
    (hm : r'.mode = r.mode) : TripsBounded (recompose r') :=
  TripsBounded.followComposition (h.kept (r' := compose r') hl fun h' => hm ▸ h')

theorem TripsBounded.addFailure {r : ChainRecord} (h : TripsBounded r) (k : Check) :
    TripsBounded (addFailure k r) := by
  unfold Machine.addFailure
  split
  · next hm => exact h.kept rfl fun _ => by rw [hm]; rfl
  · exact h

theorem testQualify_tripsBounded {s : State} {c : ChainNo} {r : ChainRecord} (h : TripsBounded r)
    (hm : mayTrip r.mode = true) : TripsBounded (testQualify s c r) := by
  unfold testQualify
  split <;> exact h.kept rfl fun _ => hm

theorem arcRecord_tripsBounded {now : Nat} {p : Profile} {x : ArcPulse} {r : ChainRecord} (h : TripsBounded r) :
    TripsBounded (arcRecord now p x r) := by
  unfold arcRecord
  split
  · next hm => exact h.kept rfl fun _ => by rw [hm]; rfl
  · next hm => exact h.kept rfl fun _ => by rw [hm]; rfl
  · next hm => exact h.kept rfl fun _ => by rw [hm]; rfl
  · exact h.kept rfl nofun
  · exact h

theorem surgeRecord_tripsBounded {p : Profile} {x : PulseStamp} {r : ChainRecord} (h : TripsBounded r) :
    TripsBounded (surgeRecord p x r) := by
  unfold surgeRecord
  split
  · next hm => exact h.kept rfl fun _ => by rw [hm]; rfl
  · next hm => exact h.kept rfl fun _ => by rw [hm]; rfl
  · next hm => exact h.kept rfl fun _ => by rw [hm]; rfl
  · exact h

/-- The lockout decision frees a chain only with room for another trip (R111). -/
theorem decideLockout_tripsBounded {s : State} {c : ChainNo} {r : ChainRecord}
    (hL : (profileOf s c).lockoutLimit ≤ 8) (h : TripsBounded r) : TripsBounded (decideLockout s c r) := by
  have ha := h.aged (profileOf s c) (siteClock s)
  unfold decideLockout
  extract_lets r1
  split
  · exact tripsBounded_settled rfl ha.length_le ha.weighted
  · next hs => exact tripsBounded_short (ha.weighted.length_of_free hL hs) ha.weighted

theorem tickRecord_tripsBounded {s : State} {c : ChainNo} {r : ChainRecord}
    (hL : (profileOf s c).lockoutLimit ≤ 8) (h : TripsBounded r) : TripsBounded (tickRecord s c r) := by
  unfold tickRecord
  extract_lets p
  split
  · next hm =>
    split
    · exact h.kept rfl fun _ => by rw [hm]; rfl
    · exact h
  · next hm =>
    split
    · exact h.kept rfl id
    · exact h
  · next cause d hm =>
    split
    · exact h
    · extract_lets d1
      have hd : TripsBounded { r with mode := .holdoff cause d1 } := h.kept rfl nofun
      split
      · exact decideLockout_tripsBounded hL hd
      · exact hd
  · exact h

/-- CHAIN_ON lets a chain out of DISABLED only with room for another trip (R17). -/
theorem switchOnRecord_tripsBounded {s : State} {c : ChainNo} {r : ChainRecord}
    (hL : (profileOf s c).lockoutLimit ≤ 8) (h : TripsBounded r) : TripsBounded (switchOnRecord s c r) := by
  unfold switchOnRecord
  split
  · split
    · exact h.kept rfl nofun
    · next hs => exact tripsBounded_short (h.weighted.length_of_free hL hs) h.weighted
  · exact h

theorem clearLockoutRecord_tripsBounded {s : State} {c : ChainNo} {r : ChainRecord} (h : TripsBounded r) :
    TripsBounded (clearLockoutRecord s c r) := by
  unfold clearLockoutRecord
  split
  · extract_lets r1
    split <;> exact tripsBounded_short (Nat.zero_le _) nofun
  · exact h

/-- Start-up places a chain in QUALIFY only with room for another trip (R25). -/
theorem placeChain_tripsBounded {s : State} {c : ChainNo} (hL : (profileOf s c).lockoutLimit ≤ 8)
    (h : TripsBounded (recordOf s c)) : TripsBounded (placeChain s c) := by
  unfold placeChain
  extract_lets r
  split
  · exact h.kept rfl nofun
  · split
    · exact h
    · split
      · split
        · exact h.kept rfl nofun
        · next hs => exact tripsBounded_short (h.weighted.length_of_free hL hs) h.weighted
      · exact h

theorem startRecord_tripsBounded {p : Profile} {c : ChainNo} {l : List TripEntry} {latch : Bool} (hl : l.length ≤ 8)
    (hw : Weighted l) : TripsBounded (startRecord p c l latch) := tripsBounded_settled rfl hl hw

/-! ### The lockout limits -/

/-- The lockout limit of an image that passes validation (Table 9-1). -/
theorem lockoutLimit_of_valid {img : List Byte} (h : failingField img = none) :
    (profileOfImage img).lockoutLimit ≤ 8 := by
  unfold failingField at h
  rw [Option.map_eq_none_iff, List.find?_eq_none] at h
  have hm : ((49, within 1 8 (profileOfImage img).lockoutLimit) : Nat × Bool)
      ∈ profileTests (profileOfImage img) ++ [(73, fillClear img)] := by
    simp [profileTests, profileTestsHigh]
  have ht := h _ hm
  simp [within] at ht
  omega

theorem ProfileGood.lockoutLimit_le {p : Profile} (h : ProfileGood p) : p.lockoutLimit ≤ 8 := by
  obtain rfl | ⟨img, ⟨-, hv⟩, rfl⟩ := h
  · decide
  · exact lockoutLimit_of_valid hv

/-- The profile start-up chooses is the default or that of a VALID slot (R162). -/
theorem chosenProfile_lockoutLimit (a : NvArray) : (designatedProfile a (chosenDesignation a)).lockoutLimit ≤ 8 := by
  have hd : builtInProfile.lockoutLimit ≤ 8 := by decide
  cases hc : chosenDesignation a with
  | builtIn => exact hd
  | slot k =>
    have hs : slotStateOf (a.slots.get k) = .valid := by
      unfold chosenDesignation at hc
      split at hc
      · split at hc
        · next hv =>
          cases hc
          exact hv
        · cases hc
      · cases hc
      · cases hc
    unfold designatedProfile
    dsimp only
    split
    · next img himg =>
      rw [himg] at hs
      unfold slotStateOf at hs
      dsimp only at hs
      split at hs
      · split at hs
        · next hf => exact lockoutLimit_of_valid hf
        · cases hs
      · cases hs
    · exact hd

end Sys2Proof.Machine
end

section
/-! PROOFS. Every event keeps the bounds of the Capture Queue, the tracker and the recent trip lists. -/

namespace Sys2Proof.Machine

/-- Every chain's lockout limit is at most 8, as validation makes it (Table 9-1). -/
def LimitsBounded (s : State) : Prop := ∀ c, (profileOf s c).lockoutLimit ≤ 8

theorem ProfilesSafe.limitsBounded {s : State} (h : ProfilesSafe s) : LimitsBounded s :=
  fun c => (h.chains c).1.lockoutLimit_le

/-- What took `s` to `t` kept the bounds of the Capture Queue, of the tracker and, where the lockout limits were
bounded, of the recent trip lists. -/
structure BoundsKept (s t : State) : Prop where
  queue   : CaptureSafe s → CaptureSafe t
  tracker : TrackerSafe s → TrackerSafe t
  trips   : LimitsBounded s → TripsSafe s → TripsSafe t

/-! ## How it is established -/

theorem CaptureSafe.kept {s t : State} (h : CaptureSafe s) (hr : t.capture.records = s.capture.records)
    (hn : t.capture.next = s.capture.next) : CaptureSafe t := by
  rw [captureSafe_iff, hr, hn]
  exact (captureSafe_iff s).mp h

theorem CaptureSafe.congr {s t : State} (h : CaptureSafe s) (hq : queueTracker t = queueTracker s) : CaptureSafe t := by
  simp only [queueTracker, Prod.mk.injEq] at hq
  obtain ⟨hr, hn, -, -⟩ := hq
  exact h.kept hr hn

theorem TrackerSafe.congr {s t : State} (h : TrackerSafe s) (hq : queueTracker t = queueTracker s) : TrackerSafe t := by
  simp only [queueTracker, Prod.mk.injEq] at hq
  obtain ⟨-, -, hn, hm⟩ := hq
  exact (trackerBounded_congr hn hm).mpr h

theorem TripsSafe.congr {s t : State} (h : TripsSafe s) (hr : ∀ c, recordOf t c = recordOf s c) : TripsSafe t := by
  rw [tripsSafe_iff] at h ⊢
  intro c
  rw [hr]
  exact h c

/-- An event that leaves the queue's records and the tracker's state. -/
theorem boundsKept_of_trips {s t : State} (hq : queueTracker t = queueTracker s)
    (ht : LimitsBounded s → TripsSafe s → TripsSafe t) : BoundsKept s t :=
  ⟨fun h => h.congr hq, fun h => h.congr hq, ht⟩

/-- An event that leaves the chain records too. -/
theorem OutputsKept.boundsKept {s t : State} (h : OutputsKept s t) (hq : queueTracker t = queueTracker s) :
    BoundsKept s t := boundsKept_of_trips hq fun _ ht => ht.congr h.records

theorem SupervisionKept.boundsKept {s t : State} (h : SupervisionKept s t) (hq : queueTracker t = queueTracker s) :
    BoundsKept s t := boundsKept_of_trips hq fun _ ht => ht.congr h.records

/-- An event whose records are left and whose tracker is bounded, the queue's records being left. -/
theorem OutputsKept.boundsKept_tracker {s t : State} (h : OutputsKept s t) (hc : t.capture = s.capture)
    (ht : TrackerSafe s → TrackerSafe t) : BoundsKept s t :=
  ⟨fun hs => hs.kept (by rw [hc]) (by rw [hc]), ht, fun _ hs => hs.congr h.records⟩

theorem BoundsKept.refl (s : State) : BoundsKept s s := ⟨id, id, fun _ => id⟩

/-- What follows leaves the bounded fields. -/
theorem BoundsKept.followed {s t u : State} (h : BoundsKept s t) (hq : queueTracker u = queueTracker t)
    (hr : ∀ c, recordOf u c = recordOf t c) : BoundsKept s u :=
  ⟨fun hs => (h.queue hs).congr hq, fun hs => (h.tracker hs).congr hq, fun hl hs => (h.trips hl hs).congr hr⟩

/-- What came before left the bounded fields and the profiles. -/
theorem BoundsKept.preceded {s u t : State} (h : BoundsKept u t) (hq : queueTracker u = queueTracker s)
    (hr : ∀ c, recordOf u c = recordOf s c) (hp : ∀ c, profileOf u c = profileOf s c) : BoundsKept s t := by
  have hl : LimitsBounded s → LimitsBounded u := fun hl c => by
    rw [hp]
    exact hl c
  exact ⟨fun hs => h.queue (hs.congr hq), fun hs => h.tracker (hs.congr hq),
    fun hs ht => h.trips (hl hs) (ht.congr hr)⟩

/-- Time passed before. -/
theorem BoundsKept.later {dt : Nat} {s t : State} (h : BoundsKept (elapse dt s) t) : BoundsKept s t :=
  h.preceded rfl (fun _ => rfl) fun _ => rfl

/-- An event was taken from a chain's inbox before. -/
theorem BoundsKept.took {c : ChainNo} {b : ChainInbox} {s t : State} (h : BoundsKept (setInbox c b s) t) :
    BoundsKept s t := h.preceded rfl (fun d => setInbox_recordOf c d b s) fun d => setInbox_profileOf c d b s

theorem BoundsKept.finished {s t : State} (h : BoundsKept s t) : BoundsKept s (finish t) :=
  h.followed (finish_queueTracker t) (finish_recordOf t)

/-! ## Records replaced and committed -/

theorem TripsSafe.record {s : State} (h : TripsSafe s) (c : ChainNo) : TripsBounded (recordOf s c) :=
  (tripsSafe_iff s).mp h c

theorem TripsSafe.setRecord {s : State} (h : TripsSafe s) (c : ChainNo) {r : ChainRecord} (hr : TripsBounded r) :
    TripsSafe (setRecord c r s) := by
  rw [tripsSafe_iff] at h ⊢
  intro d
  rw [setRecord_recordOf]
  split
  · exact hr
  · exact h d

/-- Committing a record that is bounded if the one before it was. -/
theorem commitChain_bounds {c : ChainNo} {r : ChainRecord} {s : State}
    (hr : LimitsBounded s → TripsBounded (recordOf s c) → TripsBounded r) : BoundsKept s (commitChain c r s) :=
  boundsKept_of_trips (commitChain_queueTracker c r s) fun hl h => by
    rw [commitChain_frame]
    exact (h.setRecord c (hr hl (h.record c))).congr fun _ => rfl

theorem setRecord_bounds {c : ChainNo} {r : ChainRecord} {s : State}
    (hr : TripsBounded (recordOf s c) → TripsBounded r) : BoundsKept s (setRecord c r s) :=
  boundsKept_of_trips rfl fun _ h => h.setRecord c (hr (h.record c))

/-- A capture record handed over, and the trip's entry committed, for a chain that had room for it (R107, R108). -/
theorem handedTrip_bounds {c : ChainNo} {k : Fin 5} {x : CaptureRecord} {cause : TripCause} {tripTime : Word32}
    {r r' : ChainRecord} {s : State} (hr : TripsBounded (recordOf s c) → TripsBounded r) (hm : mayTrip r.mode = true)
    (hl : r'.tripList = appendTrip cause tripTime r.tripList) (hm' : mayTrip r'.mode = false) :
    BoundsKept s (commitChain c r' (handRecord k x s)) := by
  have h : BoundsKept (handRecord k x s) (commitChain c r' (handRecord k x s)) :=
    commitChain_bounds fun _ ht => (hr ht).tripped hm hl hm'
  exact h.preceded rfl (fun _ => rfl) fun _ => rfl

theorem slowTrip_bounds {c : ChainNo} {cause : TripCause} {tripTime : Word32} {run : RunState} {a : Nat}
    {r : ChainRecord} {s : State} (hr : TripsBounded (recordOf s c) → TripsBounded r) (hm : mayTrip r.mode = true) :
    BoundsKept s (slowTrip c cause tripTime run a r s) := handedTrip_bounds hr hm rfl rfl

theorem mayTrip_of_run {m : ChainMode} {run : RunState} (h : runState m = some run) : mayTrip m = true := by
  obtain ⟨rfl, -⟩ | ⟨rfl, -⟩ := runState_cases h <;> rfl

/-! ## What a chain takes -/

section Taking

variable {c : ChainNo} {s : State}

theorem takeFlowResult_bounds (x : FlowResult) : BoundsKept s (takeFlowResult c x s) := by
  have hr (h : TripsBounded (recordOf s c)) : TripsBounded { recordOf s c with flowRate := x.rate } := h.kept rfl id
  unfold takeFlowResult
  extract_lets old r
  split
  · next run hrun =>
    split
    · exact slowTrip_bounds hr (mayTrip_of_run hrun)
    · exact commitChain_bounds fun _ => hr
  · exact commitChain_bounds fun _ => hr

theorem takeEvaluation_bounds (x : ChainReadings) (returned : Bool) :
    BoundsKept s (takeEvaluation c x returned s) := by
  have hr (h : TripsBounded (recordOf s c)) :
      TripsBounded (evaluateRecord (profileOf s c) x returned (recordOf s c)) := h.kept rfl id
  unfold takeEvaluation
  extract_lets p old r
  have hmay {m} (hm : old.mode = m) (h : mayTrip m = true) : mayTrip r.mode = true := hm ▸ h
  split
  · next hm =>
    split
    · exact slowTrip_bounds hr (hmay hm rfl)
    · exact commitChain_bounds fun _ h => (hr h).followComposition
  · next hm =>
    split
    · exact slowTrip_bounds hr (hmay hm rfl)
    · exact commitChain_bounds fun _ h => (hr h).followComposition
  · next hm => exact commitChain_bounds fun _ h => testQualify_tripsBounded (hr h) (hmay hm rfl)
  · exact commitChain_bounds fun _ => hr

theorem takeStale_bounds : BoundsKept s (takeStale c s) := by
  have hr (h : TripsBounded (recordOf s c)) : TripsBounded
      (recompose { recordOf s c with freshness := .stale, blind := (profileOf s c).chainBlind }) := h.recompose rfl rfl
  exact commitChain_bounds fun _ h => (hr h).addFailure _

theorem takeLost_bounds (due : Word32) : BoundsKept s (takeLost c due s) := by
  unfold takeLost
  extract_lets old r
  split
  · next run hrun =>
    have hr (h : TripsBounded (recordOf s c)) : TripsBounded (compose r) := h.kept rfl id
    exact slowTrip_bounds hr (mayTrip_of_run hrun)
  · have hr (h : TripsBounded (recordOf s c)) : TripsBounded (recompose r) := h.recompose rfl rfl
    exact commitChain_bounds fun _ h => (hr h).addFailure _

theorem takeCeiling_bounds (x : Nat) : BoundsKept s (takeCeiling c x s) :=
  commitChain_bounds fun _ h => h.recompose rfl rfl

theorem takeSiteLoss_bounds : BoundsKept s (takeSiteLoss c s) := commitChain_bounds fun _ h => h.addFailure _

theorem takeSiteTrip_bounds (x : SiteTrip) : BoundsKept s (takeSiteTrip c x s) := by
  unfold takeSiteTrip
  extract_lets old
  split
  · next run hrun => exact slowTrip_bounds id (mayTrip_of_run hrun)
  · exact commitChain_bounds fun _ h => h.addFailure _

theorem takeOpening_bounds : BoundsKept s (takeOpening c s) := by
  unfold takeOpening
  extract_lets old
  split
  · next run hrun =>
    have hr (h : TripsBounded (recordOf s c)) : TripsBounded (enterQualify s c old) :=
      h.kept rfl fun _ => mayTrip_of_run hrun
    exact commitChain_bounds fun _ h => (hr h).addFailure _
  · exact commitChain_bounds fun _ h => h.addFailure _

/-- A new profile at the chain brings new limits; the list is aged under them and no entry joins (R115). -/
theorem takeActivation_bounds (p : Profile) : BoundsKept s (takeActivation c p s) := by
  refine boundsKept_of_trips (commitChain_queueTracker _ _ _) fun _ h => ?_
  have hp : TripsSafe (setChain c { chainOfState s c with profile := p } s) :=
    h.congr fun d => setProfile_recordOf c d p s
  have hr : TripsBounded (recompose { activateRecord p c (recordOf s c) with
      tripList := ageList p (siteClock s) (recordOf s c).tripList }) :=
    ((h.record c).aged p (siteClock s)).recompose rfl rfl
  unfold takeActivation
  rw [commitChain_frame]
  exact (hp.setRecord c hr).congr fun _ => rfl

/-- CHAIN_OFF settles the trip of a chain in CLASSIFY (R19). -/
theorem switchOff_bounds : BoundsKept s (switchOff c s) := by
  unfold switchOff
  extract_lets r
  split
  · exact BoundsKept.refl s
  · next hm => exact handedTrip_bounds id (by rw [hm]; rfl) rfl rfl
  · exact commitChain_bounds fun _ h => h.kept rfl nofun

/-- A record made from the one the chain held as it took an event, committed. -/
theorem commitTaken_bounds {b : ChainInbox} {r : ChainRecord}
    (hr : LimitsBounded s → TripsBounded (recordOf s c) → TripsBounded r) :
    BoundsKept s (commitChain c r (setInbox c b s)) := by
  refine boundsKept_of_trips (commitChain_queueTracker _ _ _) fun hl h => ?_
  rw [commitChain_frame]
  have ht : TripsSafe (setInbox c b s) := h.congr fun d => setInbox_recordOf c d b s
  exact (ht.setRecord c (hr hl (h.record c))).congr fun _ => rfl

end Taking

/-! ## The chains' events -/

section ChainEvents

variable (c : ChainNo) (s : State)

theorem flowResultEvent_bounds : BoundsKept s (flowResultEvent c s) := by
  unfold flowResultEvent
  split
  · exact BoundsKept.refl s
  · exact (takeFlowResult_bounds _).took.finished

theorem evaluationEvent_bounds : BoundsKept s (evaluationEvent c s) := by
  unfold evaluationEvent
  split
  · exact (takeEvaluation_bounds _ _).took.finished
  · exact BoundsKept.refl s

theorem freshnessEvent_bounds : BoundsKept s (freshnessEvent c s) := by
  unfold freshnessEvent
  split
  · exact takeStale_bounds.took.finished
  · exact (takeLost_bounds _).took.finished
  · exact BoundsKept.refl s

theorem ceilingEvent_bounds : BoundsKept s (ceilingEvent c s) := by
  unfold ceilingEvent
  split
  · exact (takeCeiling_bounds _).took.finished
  · exact BoundsKept.refl s

theorem siteTripTaken_bounds : BoundsKept s (siteTripTaken c s) := by
  unfold siteTripTaken
  split
  · exact (takeSiteTrip_bounds _).took.finished
  · exact BoundsKept.refl s

theorem siteLossTaken_bounds : BoundsKept s (siteLossTaken c s) := by
  unfold siteLossTaken
  split
  · exact takeSiteLoss_bounds.took.finished
  · exact BoundsKept.refl s

theorem openingEvent_bounds : BoundsKept s (openingEvent c s) := by
  unfold openingEvent
  split
  · exact takeOpening_bounds.took.finished
  · exact BoundsKept.refl s

theorem arcEvent_bounds : BoundsKept s (arcEvent c s) := by
  unfold arcEvent
  split
  · exact BoundsKept.refl s
  · exact (commitTaken_bounds fun _ => arcRecord_tripsBounded).finished

theorem surgeEvent_bounds : BoundsKept s (surgeEvent c s) := by
  unfold surgeEvent
  split
  · exact BoundsKept.refl s
  · exact (commitTaken_bounds fun _ => surgeRecord_tripsBounded).finished

theorem tickEvent_bounds : BoundsKept s (tickEvent c s) := by
  unfold tickEvent
  split
  · exact BoundsKept.refl s
  · exact (commitTaken_bounds fun hl => tickRecord_tripsBounded (hl c)).finished

theorem chainActivationEvent_bounds : BoundsKept s (chainActivationEvent c s) := by
  unfold chainActivationEvent
  split
  · exact BoundsKept.refl s
  · exact (takeActivation_bounds _).took.finished

theorem expireWindow_bounds : BoundsKept s (expireWindow c s) := by
  unfold expireWindow
  extract_lets r
  split
  · next hm =>
    split
    · exact (handedTrip_bounds id (by rw [hm]; rfl) rfl rfl).finished
    · exact BoundsKept.refl s
  · exact BoundsKept.refl s

theorem endDwell_bounds : BoundsKept s (endDwell c s) := by
  unfold endDwell
  extract_lets r
  split
  · split
    · exact (commitChain_bounds fun hl => decideLockout_tripsBounded (hl c)).finished
    · exact BoundsKept.refl s
  · exact BoundsKept.refl s

theorem expireTrips_bounds : BoundsKept s (expireTrips c s) := setRecord_bounds fun h => h.aged _ _

theorem expireRunOn_bounds : BoundsKept s (expireRunOn c s) := by
  unfold expireRunOn
  extract_lets r
  split
  · split
    · have hr (h : TripsBounded (recordOf s c)) : TripsBounded { r with mode := .disabled none } := h.kept rfl nofun
      exact (setRecord_bounds hr).finished
    · exact BoundsKept.refl s
  · exact BoundsKept.refl s

end ChainEvents

/-! ## The Capture Queue's and the tracker's events -/

theorem joinEvent_bounds (s : State) : BoundsKept s (joinEvent s) := by
  unfold joinEvent
  split
  · exact BoundsKept.refl s
  · next x rest hin =>
    refine BoundsKept.finished ?_
    rw [raiseCapture_frame]
    exact ⟨fun h => h.join x.record rfl rfl, id, fun _ h => h.congr fun _ => rfl⟩

theorem putTracker_bounds {x : Tracker × Bool} {s : State} (h : TrackerSafe s → TrackerBounded x.1) :
    BoundsKept s (putTracker x s) := by
  refine (putTracker_outputsKept x s).boundsKept_tracker ?_ fun hs => ?_ <;> unfold putTracker <;> dsimp only <;> split
  · rfl
  · rfl
  · exact h hs
  · exact h hs

theorem markerEvent_bounds (s : State) : BoundsKept s (markerEvent s) := by
  unfold markerEvent
  split
  · split
    · exact putTracker_bounds (markTracker_bounded _)
    · exact BoundsKept.refl s
  · exact BoundsKept.refl s

theorem fallbackEvent_bounds (s : State) : BoundsKept s (fallbackEvent s) := by
  unfold fallbackEvent
  split
  · next hm =>
    split
    · exact putTracker_bounds fun h => (trackerBounded_search rfl).mpr ((trackerBounded_search hm).mp h)
    · exact BoundsKept.refl s
  · exact BoundsKept.refl s

theorem dropPrevious_bounds (s : State) : BoundsKept s (dropPrevious s) := by
  refine (dropPrevious_outputsKept s).boundsKept_tracker ?_ fun h => ?_ <;> unfold dropPrevious <;> split
  · split <;> rfl
  · rfl
  · split
    · exact (by decide : 0 < 4)
    · exact h
  · exact h

theorem windowEvent_bounds (s : State) : BoundsKept s (windowEvent s) := by
  unfold windowEvent
  split
  · next hm =>
    split
    · exact putTracker_bounds fun h => missWindow_bounded ((trackerBounded_locked hm).mp h).1
    · exact BoundsKept.refl s
  · exact BoundsKept.refl s

theorem trackerActivationEvent_bounds (s : State) : BoundsKept s (trackerActivationEvent s) := by
  unfold trackerActivationEvent
  split
  · exact BoundsKept.refl s
  · extract_lets t
    split
    · exact (setTracker_outputsKept _ s).boundsKept rfl
    · exact putTracker_bounds fun _ => retune_bounded _ _ _

/-! ## The Site Monitor, the nonvolatile writes and the transmit line -/

theorem takeSiteEvaluation_queueTracker (x : SiteReadings) (returned : Bool) (s : State) :
    queueTracker (takeSiteEvaluation x returned s) = queueTracker s := by
  unfold takeSiteEvaluation
  extract_lets old r s1 s2
  have h1 : queueTracker s1 = queueTracker s := by
    simp only [s1]
    split <;> simp [setSiteLostReason]
  split <;> simp [s2, h1]

theorem siteEvaluationEvent_bounds (s : State) : BoundsKept s (siteEvaluationEvent s) := by
  unfold siteEvaluationEvent
  split
  · refine BoundsKept.finished (SupervisionKept.boundsKept ?_ (takeSiteEvaluation_queueTracker _ _ _))
    exact (setSiteIntake_supervisionKept _ s).trans (takeSiteEvaluation_kept _ _ _)
  · exact BoundsKept.refl s

theorem siteStaleEvent_bounds (s : State) : BoundsKept s (siteStaleEvent s) := by
  unfold siteStaleEvent
  split
  · refine BoundsKept.finished (SupervisionKept.boundsKept ?_ (by simp [takeSiteStale]))
    exact (setSiteIntake_supervisionKept _ s).trans (takeSiteStale_kept _)
  · exact BoundsKept.refl s

theorem siteLostEvent_bounds (s : State) : BoundsKept s (siteLostEvent s) := by
  unfold siteLostEvent
  split
  · refine BoundsKept.finished (SupervisionKept.boundsKept ?_ (by simp [takeSiteLost, setSiteLostReason]))
    exact (setSiteIntake_supervisionKept _ s).trans (takeSiteLost_kept _)
  · exact BoundsKept.refl s

theorem openInterlock_bounds (s : State) : BoundsKept s (openInterlock s) := by
  unfold openInterlock
  split
  · refine BoundsKept.finished (SupervisionKept.boundsKept ?_ (raiseSite_queueTracker _))
    have hi := (setInterlock_supervisionKept .opened s).trans (handRecord_supervisionKept 4 (interlockCapture s) _)
    exact hi.trans (deliverInterlock_kept _ _)
  · exact BoundsKept.refl s

theorem closeInterlock_bounds (s : State) : BoundsKept s (closeInterlock s) := by
  unfold closeInterlock
  split
  · refine BoundsKept.finished (SupervisionKept.boundsKept ?_ (raiseSite_queueTracker _))
    exact (setInterlock_supervisionKept _ s).trans (deliverInterlock_kept _ _)
  · exact BoundsKept.refl s

theorem endWrite_queueTracker (s : State) : queueTracker (endWrite s) = queueTracker s := startWrite_queueTracker _

theorem recordWrite_queueTracker (x : AlarmReasons) (a : NvArray) (s : State) :
    queueTracker (endWrite (setAlarms x { s with array := a })) = queueTracker s :=
  (endWrite_queueTracker _).trans (setAlarms_queueTracker _ _)

theorem lockoutWriteEvent_bounds (s : State) : BoundsKept s (lockoutWriteEvent s) := by
  unfold lockoutWriteEvent
  split
  · split
    · refine BoundsKept.finished (SupervisionKept.boundsKept ?_ (recordWrite_queueTracker _ _ s))
      exact recordWrite_supervisionKept s.alarms.directoryFault false _ s
    · exact BoundsKept.refl s
  · exact BoundsKept.refl s

theorem directoryWriteEvent_bounds (s : State) : BoundsKept s (directoryWriteEvent s) := by
  unfold directoryWriteEvent
  split
  · split
    · refine BoundsKept.finished (SupervisionKept.boundsKept ?_ (recordWrite_queueTracker _ _ s))
      exact recordWrite_supervisionKept false s.alarms.lockoutRecordFault _ s
    · exact BoundsKept.refl s
  · exact BoundsKept.refl s

theorem slotWriteEvent_bounds (s : State) : BoundsKept s (slotWriteEvent s) := by
  have hreply (w : SlotWrite) (u : State) : queueTracker (replyLoadEnd w u) = queueTracker u := by
    unfold replyLoadEnd
    split <;> rfl
  unfold slotWriteEvent
  split
  · next w started _ =>
    have hw : BoundsKept s
        { s with
          array := { s.array with slots := s.array.slots.set w.slot (.bytes w.image) }
          store := { s.store with slots := s.store.slots.set w.slot .valid, load := .closed } } :=
      (BoundsKept.refl s).followed rfl fun _ => rfl
    split
    · exact ((hw.followed (hreply w _) (replyLoadEnd_supervisionKept w _).records).followed
        (endWrite_queueTracker _) (endWrite_supervisionKept _).records).finished
    · exact BoundsKept.refl s
  · exact BoundsKept.refl s

theorem transmitEvent_bounds (s : State) : BoundsKept s (transmitEvent s) := by
  have hsent (x : Transmission) : queueTracker (messageSent x s) = queueTracker s := by
    unfold messageSent
    split <;> rfl
  unfold transmitEvent
  split
  · split
    · exact ((messageSent_supervisionKept _ s).boundsKept (hsent _)).finished
    · exact BoundsKept.refl s
  · exact BoundsKept.refl s

end Sys2Proof.Machine
end

section
/-! PROOFS. The requests and the resets keep the bounds of the Capture Queue, the tracker and the recent trip lists; and
with them every step (R113, R120, R130, R132, R134). -/

namespace Sys2Proof.Machine

/-! ## Requests -/

/-- A request's owner keeps the bounds. -/
def ServesBounded (serve : List Byte → State → State × Answer) : Prop := ∀ body s, BoundsKept s (serve body s).1

theorem serveRequest_bounds {serve : List Byte → State → State × Answer} (hv : ServesBounded serve) (m : Message)
    (n : Nat) (s : State) : BoundsKept s (serveRequest m n serve s) := by
  have hreply : ∀ a u, BoundsKept s u → BoundsKept s (finish (produceReply m.kind m.tag a u)) := fun a u hu =>
    (hu.followed (produceReply_queueTracker _ _ a u) (produceReply_supervisionKept _ _ a u).records).finished
  unfold serveRequest
  split
  · exact hreply _ _ (hv m.body s)
  · exact hreply _ _ (BoundsKept.refl s)

/-- A frame received is taken, or goes to the overlap slot. -/
theorem receiveFrame_bounds {m : Message} {take : State → State} (ht : ∀ s, BoundsKept s (take s)) (s : State) :
    BoundsKept s (receiveFrame m take s) := by
  unfold receiveFrame
  extract_lets s1
  split
  · have h1 : BoundsKept s1 (overlapSlot m.kind m.tag s1) :=
      (overlapSlot_outputsKept _ _ s1).boundsKept (overlapSlot_queueTracker _ _ s1)
    exact h1.preceded rfl (fun _ => rfl) fun _ => rfl
  · exact (ht _).preceded rfl (fun _ => rfl) fun _ => rfl

theorem takeRequest_bounds {serve : List Byte → State → State × Answer} (hv : ServesBounded serve) (kind : Byte)
    (n : Nat) (frame : List Byte) (s : State) : BoundsKept s (takeRequest kind n serve frame s) := by
  unfold takeRequest
  split
  · split
    · exact receiveFrame_bounds (serveRequest_bounds hv _ n) s
    · exact BoundsKept.refl s
  · exact BoundsKept.refl s

theorem takeUnknown_bounds (frame : List Byte) (s : State) : BoundsKept s (takeUnknown frame s) := by
  unfold takeUnknown
  split
  · split
    · refine receiveFrame_bounds (fun u => ?_) s
      exact ((produceReply_supervisionKept _ _ _ u).boundsKept (produceReply_queueTracker _ _ _ u)).finished
    · exact BoundsKept.refl s
  · exact BoundsKept.refl s

theorem takeOverlap_bounds (frame : List Byte) (s : State) : BoundsKept s (takeOverlap frame s) := by
  unfold takeOverlap
  split
  · split
    · exact receiveFrame_bounds BoundsKept.refl s
    · exact BoundsKept.refl s
  · exact BoundsKept.refl s

/-- An owner that answers and changes nothing. -/
theorem servesBounded_reading {serve : List Byte → State → State × Answer} (h : ∀ body s, (serve body s).1 = s) :
    ServesBounded serve := fun body s => by
  rw [h]
  exact BoundsKept.refl s

theorem serveChain_bounds {serve : ChainNo → List Byte → State → State × Answer} (h : ∀ c, ServesBounded (serve c)) :
    ServesBounded (serveChain serve) := by
  intro body s
  unfold serveChain
  split
  · exact h _ body s
  · exact BoundsKept.refl s

theorem serveSetLevel_bounds (c : ChainNo) : ServesBounded (serveSetLevel c) := fun _ _ =>
  commitChain_bounds fun _ h => h.recompose rfl rfl

theorem serveChainOn_bounds (c : ChainNo) : ServesBounded (serveChainOn c) := by
  intro body s
  unfold serveChainOn
  extract_lets r
  split
  · exact BoundsKept.refl s
  · exact commitChain_bounds fun hl => switchOnRecord_tripsBounded (hl c)

theorem serveChainOff_bounds (c : ChainNo) : ServesBounded (serveChainOff c) := fun _ _ => switchOff_bounds

theorem serveClearLockout_bounds (c : ChainNo) : ServesBounded (serveClearLockout c) := fun _ _ =>
  commitChain_bounds fun _ => clearLockoutRecord_tripsBounded

/-- The release of the oldest record (R124). -/
theorem serveReleaseCapture_bounds : ServesBounded serveReleaseCapture := by
  intro body s
  unfold serveReleaseCapture
  extract_lets n
  split
  · exact BoundsKept.refl s
  · next x rest hr =>
    split
    · refine ⟨fun h => ?_, id, fun _ h => h.congr fun _ => rfl⟩
      obtain ⟨hb, hc⟩ := (captureSafe_iff s).mp h
      rw [hr] at hb hc
      exact (captureSafe_iff _).mpr ⟨(Nat.le_succ _).trans hb, hc.tail⟩
    · split <;> exact BoundsKept.refl s

theorem setLoad_bounds (l : Load) (s : State) : BoundsKept s (setLoad l s) :=
  (setLoad_supervisionKept l s).boundsKept rfl

theorem serveLoadBegin_bounds : ServesBounded serveLoadBegin := by
  intro body s
  unfold serveLoadBegin
  split
  · exact BoundsKept.refl s
  · split
    · exact BoundsKept.refl s
    · exact setLoad_bounds _ s

theorem serveLoadSegment_bounds : ServesBounded serveLoadSegment := by
  intro body s
  unfold serveLoadSegment
  extract_lets i
  split
  · exact BoundsKept.refl s
  · exact BoundsKept.refl s
  · split
    · exact setLoad_bounds _ s
    · exact BoundsKept.refl s

theorem serveLoadEnd_bounds : ServesBounded serveLoadEnd := by
  intro body s
  unfold serveLoadEnd
  split
  · exact BoundsKept.refl s
  · exact BoundsKept.refl s
  · split
    · exact BoundsKept.refl s
    · split
      · split
        · exact setLoad_bounds _ s
        · exact (commitImage_supervisionKept _ _ s).boundsKept (commitImage_queueTracker _ _ s)
      · exact setLoad_bounds _ s

theorem serveLoadCancel_bounds : ServesBounded serveLoadCancel := by
  intro body s
  unfold serveLoadCancel
  split
  · exact BoundsKept.refl s
  · exact setLoad_bounds _ s

theorem makeActive_recordOf (d : Designation) (p : Profile) (s : State) (c : ChainNo) :
    recordOf (makeActive d p s) c = recordOf s c := by
  unfold makeActive setDefaultReason
  rw [setAlarms_frame]
  simp [recordOf, announce]

theorem acceptActivate_bounds (d : Designation) (p : Profile) (persist : Bool) (s : State) :
    BoundsKept s (acceptActivate d p persist s).1 := by
  have hm : BoundsKept s (makeActive d p s) :=
    boundsKept_of_trips (makeActive_queueTracker d p s) fun _ h => h.congr (makeActive_recordOf d p s)
  exact hm.followed (persistDirectory_queueTracker _ _ _) (persistDirectory_supervisionKept _ _ _).records

theorem serveActivate_bounds : ServesBounded serveActivate := by
  intro body s
  unfold serveActivate
  extract_lets persist
  split
  · exact BoundsKept.refl s
  · exact acceptActivate_bounds _ _ _ s
  · split
    · exact BoundsKept.refl s
    · exact acceptActivate_bounds _ _ _ s
    · exact BoundsKept.refl s

theorem serveSetNotices_bounds : ServesBounded serveSetNotices := fun _ _ =>
  boundsKept_of_trips rfl fun _ h => h.congr fun _ => rfl

/-! ## Resets and the end of start-up -/

/-- Start-up's tracker has counted no good interval (R137). -/
theorem trackerSafe_start {s : State} {now : Nat} {p : Profile} {fmk : Bool}
    (h : s.tracker = startTracker now p fmk) : TrackerSafe s := by
  rw [trackerSafe_iff, h]
  exact (trackerBounded_search rfl).mpr (by omega)

/-- A reset keeps the queue's records and the trip lists, every chain standing in DISABLED (R5, R126). -/
theorem enterReset_bounds (phase : Phase) (s : State) : BoundsKept s (enterReset phase s) := by
  refine ⟨fun h => h.kept rfl rfl, fun _ => trackerSafe_start rfl, fun _ h => ?_⟩
  refine (tripsSafe_iff _).mpr fun c => ?_
  rw [enterReset_recordOf]
  exact startRecord_tripsBounded (h.record c).length_le (h.record c).weighted

/-- A power-on reset empties the queue and the trip lists (R126, R163). -/
theorem execPowerOnReset_bounds (bsel1 bsel0 : Bool) (phase : Phase) (s : State) :
    BoundsKept s (enterReset phase (clearForPowerOn bsel1 bsel0 s)) := by
  have hc : BoundsKept s (clearForPowerOn bsel1 bsel0 s) := by
    refine ⟨fun _ => (captureSafe_iff _).mpr ⟨Nat.zero_le _, nofun⟩, id, fun _ _ => (tripsSafe_iff _).mpr fun c => ?_⟩
    have hr : recordOf (clearForPowerOn bsel1 bsel0 s) c = startRecord builtInProfile c [] false := by
      simp [clearForPowerOn, recordOf, startChain]
    rw [hr]
    exact startRecord_tripsBounded (Nat.zero_le _) nofun
  have hp : LimitsBounded (clearForPowerOn bsel1 bsel0 s) := fun c => by
    have hd : profileOf (clearForPowerOn bsel1 bsel0 s) c = builtInProfile := by
      simp [clearForPowerOn, profileOf, startChain]
    rw [hd]
    decide
  have he := enterReset_bounds phase (clearForPowerOn bsel1 bsel0 s)
  exact ⟨fun h => he.queue (hc.queue h), fun h => he.tracker (hc.tracker h), fun hl h => he.trips hp (hc.trips hl h)⟩

theorem fallRstN_bounds (s : State) : BoundsKept s (fallRstN s) := by
  unfold fallRstN
  dsimp only
  split
  · exact (BoundsKept.refl _).preceded rfl (fun _ => rfl) fun _ => rfl
  · exact (enterReset_bounds _ _).preceded rfl (fun _ => rfl) fun _ => rfl

theorem resetByRequest_bounds (s : State) : BoundsKept s (resetByRequest s) := by
  unfold resetByRequest
  split
  · exact enterReset_bounds _ s
  · exact BoundsKept.refl s

theorem riseRstN_bounds (s : State) : BoundsKept s (riseRstN s) := by
  unfold riseRstN
  dsimp only
  split
  · exact (enterReset_bounds _ _).preceded rfl (fun _ => rfl) fun _ => rfl
  · exact (BoundsKept.refl _).preceded rfl (fun _ => rfl) fun _ => rfl

/-- Steps 1 to 5 of start-up leave a chain in DISABLED with at most the entries it had (R5, R162). -/
theorem startBlocks_trips {s : State} (h : TripsSafe s) : TripsSafe (startBlocks s) := by
  refine (tripsSafe_iff _).mpr fun c => ?_
  rw [startBlocks_recordOf]
  have hr := (h.record c).aged (designatedProfile s.array (chosenDesignation s.array)) (siteClock s)
  exact startRecord_tripsBounded hr.length_le hr.weighted

theorem placeChains_recordOf (s : State) (c : ChainNo) : recordOf (placeChains s) c = placeChain s c := by
  rw [placeChains_frame]
  exact placed_recordOf s c

theorem placeChains_trips {s : State} (hl : LimitsBounded s) (h : TripsSafe s) : TripsSafe (placeChains s) := by
  refine (tripsSafe_iff _).mpr fun c => ?_
  rw [placeChains_recordOf]
  exact placeChain_tripsBounded (hl c) (h.record c)

theorem endStartUp_bounds (s : State) : BoundsKept s (endStartUp s) := by
  have hl : LimitsBounded (startBlocks s) := fun c => by
    rw [startBlocks_profileOf]
    exact chosenProfile_lockoutLimit s.array
  have hp : BoundsKept s (placeChains (startBlocks s)) := by
    refine ⟨fun h => ?_, fun _ => ?_, fun _ h => placeChains_trips hl (startBlocks_trips h)⟩
    · rw [placeChains_frame]
      exact h.kept rfl rfl
    · rw [placeChains_frame]
      exact trackerSafe_start rfl
  unfold endStartUp
  split
  · split
    · exact hp.finished
    · exact BoundsKept.refl s
  · exact BoundsKept.refl s

/-! ## Every command and every step -/

/-- A command taken only while the part runs. -/
theorem BoundsKept.runs {f : State → State} (hf : ∀ s, BoundsKept s (f s)) (dt : Nat) (s : State) :
    BoundsKept s (whileRunning f (elapse dt s)) := by
  refine BoundsKept.later (dt := dt) ?_
  unfold whileRunning
  split
  · exact hf _
  · exact BoundsKept.refl _

/-- A command whose event leaves the queue's records, the tracker's state and the chain records. -/
theorem BoundsKept.leaves {f : State → State} (hf : ∀ s, OutputsKept s (f s))
    (hq : ∀ s, queueTracker (f s) = queueTracker s) (dt : Nat) (s : State) :
    BoundsKept s (whileRunning f (elapse dt s)) := BoundsKept.runs (fun s => (hf s).boundsKept (hq s)) dt s

/-- A request. -/
theorem BoundsKept.takes {serve : List Byte → State → State × Answer} (hv : ServesBounded serve) (kind : Byte)
    (n : Nat) (frame : List Byte) (dt : Nat) (s : State) :
    BoundsKept s (whileRunning (takeRequest kind n serve frame) (elapse dt s)) :=
  BoundsKept.runs (takeRequest_bounds hv kind n frame) dt s

/-- Every command has an effect, and it keeps the bounds. -/
theorem exec_bounds (i : Instr) (s : State) : ∃ t, exec i s = .next t ∧ BoundsKept s t := by
  cases i with
  | powerOnReset dt bsel1 bsel0 =>
    have h := execPowerOnReset_bounds bsel1 bsel0 (phaseAfterReset s.pins.rstN 0)
      { s with array := tearWrite s.nv s.array, nv := idleNv }
    exact ⟨_, rfl, h.preceded rfl (fun _ => rfl) fun _ => rfl⟩
  | warmReset dt cause =>
    cases cause with
    | rstLow => exact ⟨_, rfl, (fallRstN_bounds (elapse dt s)).later⟩
    | requested => exact ⟨_, rfl, (resetByRequest_bounds (elapse dt s)).later⟩
  | startUpEnd dt => exact ⟨_, rfl, (endStartUp_bounds (elapse dt s)).later⟩
  | sampleFrame dt header fields check =>
    exact ⟨_, rfl, .leaves (sampleFrameEvent_outputsKept _) (sampleFrameEvent_queueTracker _) dt s⟩
  | groupDiscard dt header => exact ⟨_, rfl, .leaves (discardGroup_outputsKept _) (discardGroup_queueTracker _) dt s⟩
  | shortFrameSync x => exact ⟨_, rfl, .leaves (restartFrame_outputsKept _) (restartFrame_queueTracker _) x.dt s⟩
  | shortFrameTimeout x =>
    exact ⟨_, rfl, .leaves (timeOutFrame_outputsKept _ _) (timeOutFrame_queueTracker _ _) x.dt s⟩
  | staleDeadline dt g => exact ⟨_, rfl, .leaves (reachStale_outputsKept g) (reachStale_queueTracker g) dt s⟩
  | lostDeadline dt g => exact ⟨_, rfl, .leaves (reachLost_outputsKept g) (reachLost_queueTracker g) dt s⟩
  | flowLineEdge dt c high =>
    have h := (edgeFlow_outputsKept c high (elapse dt s)).boundsKept (edgeFlow_queueTracker c high _)
    exact ⟨_, rfl, h.later⟩
  | flowPulseQualify dt c => exact ⟨_, rfl, .leaves (qualifyFlow_outputsKept c) (qualifyFlow_queueTracker c) dt s⟩
  | flowFilterRearm dt c => exact ⟨_, rfl, .leaves (rearmFlow_outputsKept c) (rearmFlow_queueTracker c) dt s⟩
  | gateEnd dt => exact ⟨_, rfl, .leaves endGate_outputsKept endGate_queueTracker dt s⟩
  | flowGateResult dt c => exact ⟨_, rfl, .runs (flowResultEvent_bounds c) dt s⟩
  | chainEvaluation dt c => exact ⟨_, rfl, .runs (evaluationEvent_bounds c) dt s⟩
  | chainFreshnessChange dt c => exact ⟨_, rfl, .runs (freshnessEvent_bounds c) dt s⟩
  | siteEvaluation dt => exact ⟨_, rfl, .runs siteEvaluationEvent_bounds dt s⟩
  | siteStale dt => exact ⟨_, rfl, .runs siteStaleEvent_bounds dt s⟩
  | siteLost dt => exact ⟨_, rfl, .runs siteLostEvent_bounds dt s⟩
  | siteCeilingChange dt c => exact ⟨_, rfl, .runs (ceilingEvent_bounds c) dt s⟩
  | siteTripEvent dt c => exact ⟨_, rfl, .runs (siteTripTaken_bounds c) dt s⟩
  | siteFreshnessLoss dt c => exact ⟨_, rfl, .runs (siteLossTaken_bounds c) dt s⟩
  | interlockLineEdge dt high =>
    have h := (edgeInterlock_outputsKept high (elapse dt s)).boundsKept (edgeInterlock_queueTracker high _)
    exact ⟨_, rfl, h.later⟩
  | interlockOpening dt => exact ⟨_, rfl, .runs openInterlock_bounds dt s⟩
  | interlockClosing dt => exact ⟨_, rfl, .runs closeInterlock_bounds dt s⟩
  | chainInterlockOpening dt c => exact ⟨_, rfl, .runs (openingEvent_bounds c) dt s⟩
  | chainInterlockClosing dt c =>
    exact ⟨_, rfl, .leaves (closingEvent_outputsKept c) (closingEvent_queueTracker c) dt s⟩
  | fastLineEdge dt line high =>
    have h := (edgeFast_outputsKept line high (elapse dt s)).boundsKept (edgeFast_queueTracker line high _)
    exact ⟨_, rfl, h.later⟩
  | fastLineQualify dt line =>
    exact ⟨_, rfl, .leaves (qualifyFast_outputsKept line) (qualifyFast_queueTracker line) dt s⟩
  | fastFilterRearm dt line => exact ⟨_, rfl, .leaves (rearmFast_outputsKept line) (rearmFast_queueTracker line) dt s⟩
  | qualifiedArcPulse dt c => exact ⟨_, rfl, .runs (arcEvent_bounds c) dt s⟩
  | qualifiedSurge dt c => exact ⟨_, rfl, .runs (surgeEvent_bounds c) dt s⟩
  | windowExpiry dt c => exact ⟨_, rfl, .runs (expireWindow_bounds c) dt s⟩
  | dwellEnd dt c => exact ⟨_, rfl, .runs (endDwell_bounds c) dt s⟩
  | tripListEntryExpiry dt c => exact ⟨_, rfl, .runs (expireTrips_bounds c) dt s⟩
  | runOnExpiry dt c => exact ⟨_, rfl, .runs (expireRunOn_bounds c) dt s⟩
  | chainFrameTick dt c => exact ⟨_, rfl, .runs (tickEvent_bounds c) dt s⟩
  | captureRecordJoin dt => exact ⟨_, rfl, .runs joinEvent_bounds dt s⟩
  | markerLineEdge dt high =>
    have h := (edgeMarker_outputsKept high (elapse dt s)).boundsKept (edgeMarker_queueTracker high _)
    exact ⟨_, rfl, h.later⟩
  | markerFilterRearm dt => exact ⟨_, rfl, .leaves rearmMarker_outputsKept rearmMarker_queueTracker dt s⟩
  | marker dt => exact ⟨_, rfl, .runs markerEvent_bounds dt s⟩
  | fallbackTick dt => exact ⟨_, rfl, .runs fallbackEvent_bounds dt s⟩
  | previousMarkerDrop dt => exact ⟨_, rfl, .runs dropPrevious_bounds dt s⟩
  | windowClose dt => exact ⟨_, rfl, .runs windowEvent_bounds dt s⟩
  | levelTransferComplete dt => exact ⟨_, rfl, .leaves transferEvent_outputsKept transferEvent_queueTracker dt s⟩
  | chainProfileActivation dt c => exact ⟨_, rfl, .runs (chainActivationEvent_bounds c) dt s⟩
  | siteProfileActivation dt =>
    exact ⟨_, rfl, .leaves siteActivationEvent_outputsKept siteActivationEvent_queueTracker dt s⟩
  | trackerProfileActivation dt => exact ⟨_, rfl, .runs trackerActivationEvent_bounds dt s⟩
  | fastMuteProfileActivation dt =>
    exact ⟨_, rfl, .leaves fastMuteActivationEvent_outputsKept fastMuteActivationEvent_queueTracker dt s⟩
  | loadTimeout dt => exact ⟨_, rfl, .leaves loadTimerEvent_outputsKept loadTimerEvent_queueTracker dt s⟩
  | lockoutRecordWriteComplete dt => exact ⟨_, rfl, .runs lockoutWriteEvent_bounds dt s⟩
  | directoryWriteComplete dt => exact ⟨_, rfl, .runs directoryWriteEvent_bounds dt s⟩
  | slotWriteComplete dt => exact ⟨_, rfl, .runs slotWriteEvent_bounds dt s⟩
  | framingError x =>
    exact ⟨_, rfl, .leaves (framingErrorEvent_outputsKept _) (framingErrorEvent_queueTracker _) x.dt s⟩
  | controlFrameDiscard x => exact ⟨_, rfl, .leaves (discardFrame_outputsKept _) (discardFrame_queueTracker _) x.dt s⟩
  | controlFrameGapTimeout x => exact ⟨_, rfl, .leaves (gapEvent_outputsKept _ _) (gapEvent_queueTracker _ _) x.dt s⟩
  | unknownKind dt head body crc => exact ⟨_, rfl, .runs (takeUnknown_bounds _) dt s⟩
  | overlapFrame dt head body crc => exact ⟨_, rfl, .runs (takeOverlap_bounds _) dt s⟩
  | identify dt inner crc => exact ⟨_, rfl, .takes (servesBounded_reading fun _ _ => rfl) _ _ _ dt s⟩
  | readChain dt inner crc =>
    exact ⟨_, rfl, .takes (serveChain_bounds fun _ => servesBounded_reading fun _ _ => rfl) _ _ _ dt s⟩
  | readSite dt inner crc => exact ⟨_, rfl, .takes (servesBounded_reading fun _ _ => rfl) _ _ _ dt s⟩
  | readTiming dt inner crc => exact ⟨_, rfl, .takes (servesBounded_reading fun _ _ => rfl) _ _ _ dt s⟩
  | readTrips dt inner crc =>
    exact ⟨_, rfl, .takes (serveChain_bounds fun _ => servesBounded_reading fun _ _ => rfl) _ _ _ dt s⟩
  | readCapture dt inner crc => exact ⟨_, rfl, .takes (servesBounded_reading fun _ _ => rfl) _ _ _ dt s⟩
  | readStore dt inner crc => exact ⟨_, rfl, .takes (servesBounded_reading fun _ _ => rfl) _ _ _ dt s⟩
  | setLevel dt inner crc => exact ⟨_, rfl, .takes (serveChain_bounds serveSetLevel_bounds) _ _ _ dt s⟩
  | chainOn dt inner crc => exact ⟨_, rfl, .takes (serveChain_bounds serveChainOn_bounds) _ _ _ dt s⟩
  | chainOff dt inner crc => exact ⟨_, rfl, .takes (serveChain_bounds serveChainOff_bounds) _ _ _ dt s⟩
  | clearLockout dt inner crc => exact ⟨_, rfl, .takes (serveChain_bounds serveClearLockout_bounds) _ _ _ dt s⟩
  | releaseCapture dt inner crc => exact ⟨_, rfl, .takes serveReleaseCapture_bounds _ _ _ dt s⟩
  | loadBegin dt inner crc => exact ⟨_, rfl, .takes serveLoadBegin_bounds _ _ _ dt s⟩
  | loadSegment dt inner crc => exact ⟨_, rfl, .takes serveLoadSegment_bounds _ _ _ dt s⟩
  | loadEnd dt inner crc => exact ⟨_, rfl, .takes serveLoadEnd_bounds _ _ _ dt s⟩
  | loadCancel dt inner crc => exact ⟨_, rfl, .takes serveLoadCancel_bounds _ _ _ dt s⟩
  | activate dt inner crc => exact ⟨_, rfl, .takes serveActivate_bounds _ _ _ dt s⟩
  | setNotices dt inner crc => exact ⟨_, rfl, .takes serveSetNotices_bounds _ _ _ dt s⟩
  | reset dt inner crc => exact ⟨_, rfl, .takes (servesBounded_reading fun _ _ => rfl) _ _ _ dt s⟩
  | transmitComplete dt => exact ⟨_, rfl, .runs transmitEvent_bounds dt s⟩
  | syncWordMatch x => exact ⟨_, rfl, .leaves (matchSync_outputsKept _) (matchSync_queueTracker _) x.dt s⟩
  | controlStartByte x => exact ⟨_, rfl, .leaves (startFrame_outputsKept _) (startFrame_queueTracker _) x.dt s⟩
  | supplyBelowThreshold dt => exact ⟨_, rfl, (enterReset_bounds .unpowered (elapse dt s)).later⟩
  | rstNRise dt => exact ⟨_, rfl, (riseRstN_bounds (elapse dt s)).later⟩

theorem step_bounds {s t : State} (ht : step s = .next t) : BoundsKept s t := by
  unfold step at ht
  split at ht
  · cases ht
    exact BoundsKept.refl s
  · next c rest _ =>
    obtain ⟨u, hu, hk⟩ := exec_bounds c (s.withPending rest)
    cases hu.symm.trans ht
    exact hk.preceded rfl (fun _ => rfl) fun _ => rfl

/-- Settles O58: every command keeps the queue's records consecutive and the tracker's estimate and misses bounded. -/
theorem stepKeepsQueueAndTracker : Obligations.StepKeepsQueueAndTracker :=
  fun _ _ ht => ⟨(step_bounds ht).queue, (step_bounds ht).tracker⟩

/-- Settles O60: a chain is let back among those that a trip may find only with a weight sum below its lockout limit,
which valid profiles hold at 8 or below; the trip that finds it takes it out again. -/
theorem stepKeepsTripListsBounded : Obligations.StepKeepsTripListsBounded :=
  fun _ _ hp h ht => (step_bounds ht).trips hp.limitsBounded h

end Sys2Proof.Machine
end

section
/-! PROOFS. The lockout decision at the end of a dwell (R110, R111), the joining and the release of capture records
(R121, R122, R124), the ends of the nonvolatile writes (R118, R158, R160, R161), and the power-on reset (R163). -/

namespace Sys2Proof.Machine

/-! ## The end of a dwell -/

/-- The decision leaves the chain in LOCKOUT or in QUALIFY. -/
theorem decideLockout_runState (s : State) (c : ChainNo) (r : ChainRecord) :
    runState (decideLockout s c r).mode = none := by
  unfold decideLockout
  extract_lets r1
  split <;> rfl

theorem exec_dwellEnd {dt : Nat} {c : ChainNo} {cause : TripCause} {d : Dwell} {s : State} (hp : s.phase = .running)
    (hm : (recordOf s c).mode = .holdoff cause d) (hd : d.ticksLeft = 0)
    (ht : d.startedAt + d.lengths.time * 10000 ≤ s.time + dt) :
    exec (.dwellEnd dt c) s
      = .next (finish (commitChain c (decideLockout (elapse dt s) c (recordOf s c)) (elapse dt s))) := by
  show Host.Outcome.next (whileRunning _ _) = _
  rw [whileRunning_running hp]
  simp only [endDwell, elapse_recordOf, hm, dwellTimeMet, elapse_time, ht, hd, decide_true, and_self, if_true]

/-- Settles O24: the event commits the lockout decision. -/
theorem dwellEndDecidesLockout : Obligations.DwellEndDecidesLockout := by
  intro dt c cause d s hp hm hd ht
  have hinbox : s.chains.set c { s.chains.get c with inbox := inboxOf s c } = s.chains := Quad.set_get s.chains c
  obtain ⟨hf, hn⟩ := finishCommit_event (dt := dt) (c := c) (b := inboxOf s c) (s1 := elapse dt s)
    (r := decideLockout (elapse dt s) c (recordOf s c)) hp (by rw [hinbox]; rfl)
  refine ⟨_, _, exec_dwellEnd hp hm hd ht, hn, inhibit_asserted hf (decideLockout_runState _ c _), ?_, hf⟩
  rw [hf.siteClock]
  exact decideLockout_later dt (recordOf s c).mode

/-! ## The Capture Queue -/

section Joining

variable {x : HandedRecord} {l : List HandedRecord}

/-- A record's place divides those handed over: before it those it joins behind, after it those of its own time that a
later source made (R122). -/
theorem placeRecord_divides (hl : l.Pairwise joinsBefore) (hx : ∀ y ∈ l, y.at_ ≤ x.at_) :
    ∃ pre post, l = pre ++ post ∧ placeRecord x l = pre ++ x :: post
      ∧ (∀ y ∈ pre, joinsBefore y x) ∧ ∀ y ∈ post, y.at_ = x.at_ ∧ x.source < y.source := by
  induction l with
  | nil => exact ⟨[], [], rfl, rfl, List.forall_mem_nil _, List.forall_mem_nil _⟩
  | cons y ys ih =>
    obtain ⟨hy, hys⟩ := List.pairwise_cons.mp hl
    have hyx : y.at_ ≤ x.at_ := hx y List.mem_cons_self
    unfold placeRecord
    split
    · next h =>
      refine ⟨[], y :: ys, rfl, rfl, List.forall_mem_nil _, fun z hz => ?_⟩
      rcases List.mem_cons.mp hz with rfl | hz'
      · exact h
      · have hzx : z.at_ ≤ x.at_ := hx z hz
        obtain hlt | ⟨he, hs⟩ := hy z hz'
        · omega
        · exact ⟨he.symm.trans h.1, lt_of_lt_of_le h.2 hs⟩
    · next h =>
      obtain ⟨pre, post, hl', hp', hpre, hpost⟩ := ih hys fun z hz => hx z (List.mem_cons_of_mem y hz)
      have hyb : joinsBefore y x := by
        rcases Nat.lt_or_eq_of_le hyx with hlt | he
        · exact Or.inl hlt
        · exact Or.inr ⟨he, not_lt.mp fun hs => h ⟨he, hs⟩⟩
      refine ⟨y :: pre, post, by rw [hl', List.cons_append], by rw [hp', List.cons_append], fun z hz => ?_, hpost⟩
      rcases List.mem_cons.mp hz with rfl | hz'
      · exact hyb
      · exact hpre z hz'

/-- In its place a record keeps the joining order. -/
theorem placeRecord_pairwise (hl : l.Pairwise joinsBefore) (hx : ∀ y ∈ l, y.at_ ≤ x.at_) :
    (placeRecord x l).Pairwise joinsBefore := by
  obtain ⟨pre, post, rfl, hp, hpre, hpost⟩ := placeRecord_divides hl hx
  obtain ⟨h1, h2, h3⟩ := List.pairwise_append.mp hl
  rw [hp]
  refine List.pairwise_append.mpr ⟨h1, List.pairwise_cons.mpr ⟨fun z hz => ?_, h2⟩, fun y hy z hz => ?_⟩
  · exact Or.inr ⟨(hpost z hz).1.symm, (hpost z hz).2.le⟩
  · rcases List.mem_cons.mp hz with rfl | hz'
    · exact hpre y hy
    · exact h3 y hy z hz'

end Joining

theorem exec_captureRecordJoin {dt : Nat} {x : HandedRecord} {rest : List HandedRecord} {s : State}
    (hp : s.phase = .running) (h : s.capture.handed = x :: rest) :
    exec (.captureRecordJoin dt) s
      = .next (finish (raiseCapture
          { elapse dt s with capture := joinQueue x.record { s.capture with handed := rest } })) := by
  show Host.Outcome.next (whileRunning _ _) = _
  rw [whileRunning_running hp]
  simp only [joinEvent, elapse_capture, h]

/-- Settles O27: the joining of the front record, and the place a record takes among those handed over. -/
theorem captureRecordJoinsQueue : Obligations.CaptureRecordJoinsQueue := by
  refine ⟨fun dt x rest s hp hin => ⟨_, exec_captureRecordJoin hp hin, ?rest, ?link, ?capture⟩,
    fun x l hl hx => ⟨placeRecord_pairwise hl hx, placeRecord_divides hl hx⟩⟩
  case rest =>
    refine finish_linkFrame ?_
    rw [finish_capture, raiseCapture_frame]
    rfl
  case link =>
    rw [finish_link _ (by rw [raiseCapture_frame]; exact hp), raiseCapture_link, finish_time, raiseCapture_frame]
    rfl
  case capture =>
    rw [finish_capture, raiseCapture_frame]
    show joinQueue x.record { s.capture with handed := rest } = _
    rw [← joinQueue_records x.record { s.capture with handed := rest }]
    rfl

section Release

variable {dt : Nat} {tag b0 b1 : Byte} {n : Word16} {s : State}

theorem exec_releaseCapture (h : CanTake s) :
    exec (requestOf .releaseCapture dt ⟨0x14, tag, [b0, b1]⟩) s
      = .next (finish (produceReply 0x14 tag
          (serveReleaseCapture [b0, b1] (requestState dt 0x14 tag s)).2
          (serveReleaseCapture [b0, b1] (requestState dt 0x14 tag s)).1)) :=
  congrArg Host.Outcome.next (takeRequest_taken h (by simp) rfl)

/-- The number a request names (Table 10-2). -/
theorem releasedNumber (hn : n.toNat = 256 * b0.toNat + b1.toNat) : BitVec.ofNat 16 (u16At [b0, b1] 0) = n := by
  have he : u16At [b0, b1] 0 = n.toNat := hn.symm
  rw [he, BitVec.ofNat_toNat, BitVec.setWidth_eq]

theorem serveReleaseCapture_oldest {x : QueuedRecord} {rest : List QueuedRecord}
    (hn : n.toNat = 256 * b0.toNat + b1.toNat) (hr : s.capture.records = x :: rest) (hx : x.sequence = n) :
    serveReleaseCapture [b0, b1] s
      = ({ s with capture := { s.capture with records := rest } }, .accept (releaseBody rest)) := by
  simp only [serveReleaseCapture, releasedNumber hn, hr, hx, if_true]

theorem serveReleaseCapture_later {x : QueuedRecord} {rest : List QueuedRecord}
    (hn : n.toNat = 256 * b0.toNat + b1.toNat) (hr : s.capture.records = x :: rest) (hx : x.sequence ≠ n)
    (hy : ∃ y ∈ rest, y.sequence = n) :
    serveReleaseCapture [b0, b1] s = (s, .refuse .sequence (bytes16 x.sequence.toNat)) := by
  have ha : (rest.any fun y => decide (y.sequence = n)) = true := by simpa using hy
  simp only [serveReleaseCapture, releasedNumber hn, hr, if_neg hx, ha, if_true]

theorem serveReleaseCapture_absent (hn : n.toNat = 256 * b0.toNat + b1.toNat)
    (h : ∀ y ∈ s.capture.records, y.sequence ≠ n) : serveReleaseCapture [b0, b1] s = (s, .refuse .notFound []) := by
  unfold serveReleaseCapture
  rw [releasedNumber hn]
  cases hr : s.capture.records with
  | nil => rfl
  | cons x rest =>
    rw [hr] at h
    have hx : x.sequence ≠ n := h x List.mem_cons_self
    have ha : ¬ (rest.any fun y => decide (y.sequence = n)) = true := by
      simpa using fun y hy => h y (List.mem_cons_of_mem x hy)
    simp only [if_neg hx, if_neg ha]

end Release

/-- Settles O45: the oldest record's number, another record's, and any other. -/
theorem releaseRemovesOnlyOldest : Obligations.ReleaseRemovesOnlyOldest := by
  intro dt tag b0 b1 n s hs hn
  refine ⟨_, exec_releaseCapture hs, fun x rest hr hx => ?oldest, fun x rest hr hx hy => ?later, fun h => ?absent⟩
  case oldest =>
    rw [serveReleaseCapture_oldest (s := requestState dt 0x14 tag s) hn hr hx]
    refine ⟨finish_linkFrame rfl, finish_requestTaken hs.running ?_⟩
    cases rest <;> rfl
  case later =>
    rw [serveReleaseCapture_later (s := requestState dt 0x14 tag s) hn hr hx hy]
    exact answer_unchanged hs.running fun _ => rfl
  case absent =>
    rw [serveReleaseCapture_absent (s := requestState dt 0x14 tag s) hn h]
    exact answer_unchanged hs.running fun _ => rfl

/-! ## The ends of the nonvolatile writes -/

/-- A record reads back the byte it was written with. -/
theorem recordByte_recordBytes (b : Byte) : recordByte (.bytes (recordBytes b)) = some b := if_pos rfl

theorem lockoutContent_written (latches : Quad Bool) :
    lockoutContent (.bytes (recordBytes (latchByte latches))) = some latches := by
  unfold lockoutContent
  rw [recordByte_recordBytes]
  obtain ⟨q0, q1, q2, q3⟩ := latches
  revert q0 q1 q2 q3
  decide

theorem directoryContent_written (d : Designation) : directoryContent (directoryCell d) = some d := by
  unfold directoryContent directoryCell
  rw [recordByte_recordBytes]
  cases d with
  | builtIn => rfl
  | slot k =>
    revert k
    decide

/-- A write's end, finished: `u` is the part with what the write wrote, before the next one starts. -/
theorem finish_endWrite {dt : Nat} {a : NvArray} {s u : State} (hp : s.phase = .running)
    (hu : u = { s with
      time := s.time + dt, array := a, alarms := u.alarms, store := u.store, lines := u.lines, link := u.link }) :
    WriteFrame dt a s (finish (endWrite u)) ∧ NextWriteStarts s (finish (endWrite u))
      ∧ (finish (endWrite u)).link = servedLink u.link (finish (endWrite u)) := by
  have he : endWrite u = { u with nv := (endWrite u).nv } := by
    unfold endWrite
    rw [startWrite_frame]
  have hn : (endWrite u).nv
      = startedNv u.time (latchesOf u) u.store.directory { s.nv with inProgress := none } := by
    have hs : u.nv = s.nv := by rw [hu]
    rw [← hs]
    exact startWrite_nv _
  generalize endWrite u = v at he hn
  have hrun : v.phase = .running := by
    rw [he, hu]
    exact hp
  refine ⟨⟨?_, finish_lines v, ?_⟩, ?_, ?_⟩
  · rw [finish_array, he, hu]
  · rw [finish_frame]
    generalize linesOf v = lines
    rw [he, hu]
  · unfold NextWriteStarts
    rw [finish_nv, finish_time, finish_store, finish_latches, hn, he]
    rfl
  · rw [finish_link v hrun, he]

theorem endWrite_alarms (s : State) : (endWrite s).alarms = s.alarms := by
  unfold endWrite
  rw [startWrite_frame]

theorem endWrite_store (s : State) : (endWrite s).store = s.store := by
  unfold endWrite
  rw [startWrite_frame]

/-- A record write's end with its fault leaving the alarm reasons, finished (R149, R150, R161). -/
theorem finish_recordWrite {dt : Nat} {a : NvArray} {x : AlarmReasons} {s t : State} (hp : s.phase = .running)
    (ht : t = finish (endWrite (setAlarms x { elapse dt s with array := a }))) :
    NextWriteStarts s t
      ∧ t.link = servedLink
          { s.link with noticePending := raisedFlags none (decide (t.alarms ≠ s.alarms)) false t.time s.link } t
      ∧ WriteFrame dt a s t ∧ t.alarms = x ∧ t.store = s.store := by
  have hk := setAlarms_link x { elapse dt s with array := a }
  have hu := setAlarms_frame x { elapse dt s with array := a }
  generalize setAlarms x { elapse dt s with array := a } = u at hk hu ht
  obtain ⟨hw, hn, hl⟩ := finish_endWrite (dt := dt) (a := a) (s := s) (u := u) hp (by rw [hu]; rfl)
  rw [← ht] at hw hn hl
  have ha : t.alarms = x := by rw [ht, finish_alarms, endWrite_alarms, hu]
  have hs : t.store = s.store := by
    rw [ht, finish_store, endWrite_store, hu]
    rfl
  have htime : t.time = s.time + dt := by rw [hw.rest]
  refine ⟨hn, ?_, hw, ha, hs⟩
  rw [hl, hk, ha, htime]
  rfl

section Writes

variable {dt since : Nat} {s : State}

theorem exec_lockoutRecordWriteComplete {latches : Quad Bool} (hp : s.phase = .running)
    (h : s.nv.inProgress = some ⟨.lockout latches, since⟩) (ht : since + 8000 ≤ s.time + dt) :
    exec (.lockoutRecordWriteComplete dt) s
      = .next (finish (endWrite (setAlarms { s.alarms with lockoutRecordFault := false }
          { elapse dt s with
            array := { s.array with lockout := .bytes (recordBytes (latchByte latches)) } }))) := by
  have hd : since + recordWriteMicros ≤ (elapse dt s).time := ht
  show Host.Outcome.next (whileRunning _ _) = _
  rw [whileRunning_running hp]
  simp only [lockoutWriteEvent, elapse_nv, h, if_pos hd, elapse_alarms, elapse_array]

theorem exec_directoryWriteComplete {d : Designation} (hp : s.phase = .running)
    (h : s.nv.inProgress = some ⟨.directory d, since⟩) (ht : since + 8000 ≤ s.time + dt) :
    exec (.directoryWriteComplete dt) s
      = .next (finish (endWrite (setAlarms { s.alarms with directoryFault := false }
          { elapse dt s with array := { s.array with directory := directoryCell d } }))) := by
  have hd : since + recordWriteMicros ≤ (elapse dt s).time := ht
  show Host.Outcome.next (whileRunning _ _) = _
  rw [whileRunning_running hp]
  simp only [directoryWriteEvent, elapse_nv, h, if_pos hd, elapse_alarms, elapse_array]

/-- The slot holds the image and is VALID, the load is closed, and the held reply is produced (R158). -/
theorem exec_slotWriteComplete {w : SlotWrite} {k : InHand} (hp : s.phase = .running)
    (h : s.nv.inProgress = some ⟨.slot w, since⟩) (ht : since + 60000 ≤ s.time + dt) (hk : s.link.inHand = some k) :
    exec (.slotWriteComplete dt) s
      = .next (finish (endWrite
          { elapse dt s with
            array := { s.array with slots := s.array.slots.set w.slot (.bytes w.image) }
            store := { s.store with slots := s.store.slots.set w.slot .valid, load := .closed }
            link := { s.link with
              reply := some (acceptance k.kind k.tag
                (namedProfile (.slot w.slot) (profileOfImage w.image))) } })) := by
  have hd : since + slotWriteMicros ≤ (elapse dt s).time := ht
  show Host.Outcome.next (whileRunning _ _) = _
  rw [whileRunning_running hp]
  simp only [slotWriteEvent, elapse_nv, h, if_pos hd, elapse_array, elapse_store, replyLoadEnd, elapse_link, hk]

end Writes

/-- Settles O39: the three writes end alike; a slot write's end takes a request's held reply in place of an alarm
reason. -/
theorem writeEndRecordsAndStartsNext : Obligations.WriteEndRecordsAndStartsNext := by
  refine ⟨fun dt since latches s hp h ht => ?lockout, fun dt since d s hp h ht => ?directory,
    fun dt since w k s hp h ht hk => ?slot⟩
  case lockout =>
    obtain ⟨hn, hl, hw, ha, hs⟩ := finish_recordWrite (dt := dt) hp rfl
    exact ⟨_, _, exec_lockoutRecordWriteComplete hp h ht, hn, hl, lockoutContent_written latches, hw, ha, hs⟩
  case directory =>
    obtain ⟨hn, hl, hw, ha, hs⟩ := finish_recordWrite (dt := dt) hp rfl
    exact ⟨_, _, exec_directoryWriteComplete hp h ht, hn, hl, directoryContent_written d, hw, ha, hs⟩
  case slot =>
    obtain ⟨hw, hn, hl⟩ := finish_endWrite (dt := dt) (u :=
      { elapse dt s with
        array := { s.array with slots := s.array.slots.set w.slot (.bytes w.image) }
        store := { s.store with slots := s.store.slots.set w.slot .valid, load := .closed }
        link := { s.link with
          reply := some (acceptance k.kind k.tag (namedProfile (.slot w.slot) (profileOfImage w.image))) } }) hp rfl
    refine ⟨_, exec_slotWriteComplete hp h ht hk, hn, hw, ?_, ?_, hl⟩
    · rw [finish_alarms, endWrite_alarms]
      rfl
    · rw [finish_store, endWrite_store]

/-! ## The power-on reset -/

/-- Settles O2: a power-on reset clears what a warm reset would keep, and then enters the reset. -/
theorem powerOnResetClears : Obligations.PowerOnResetClears := by
  refine ⟨⟨rfl, rfl, fun c => ?list, rfl, rfl, fun c => ⟨Quad.get_fill _ c, Quad.get_fill _ c⟩, rfl⟩,
    fun dt b1 b0 s => ?reset⟩
  case list =>
    rw [reset_recordOf]
    rfl
  case reset =>
    have hphase : phaseAfterReset s.pins.rstN 0 = .held ∨ phaseAfterReset s.pins.rstN 0 = .unpowered
        ∨ phaseAfterReset s.pins.rstN 0 = .startUp 0 := by
      cases s.pins.rstN
      · exact Or.inl rfl
      · exact Or.inr (Or.inr rfl)
    obtain ⟨hbus, hlines, harray, hnv, hhanded, hpending⟩ := enterReset_frame (s := clearForPowerOn b1 b0
      { s with array := tearWrite s.nv s.array, nv := idleNv }) hphase
    refine ⟨_, rfl, ⟨hbus, hlines, harray, hnv, hhanded, hpending⟩, rfl, fun c => ?_, rfl, rfl, rfl, rfl, rfl, rfl, rfl,
      startLevelBus_pending, rfl, rfl⟩
    rw [enterReset_recordOf]
    exact ⟨by simp [clearForPowerOn, recordOf, startChain, startRecord, compose], rfl, rfl⟩

end Sys2Proof.Machine
end

section
/-! PROOFS. The Frame Timing Reference (chapter 7): markers in SEARCH and in LOCKED, and the tracker's timers. -/

namespace Sys2Proof.Machine

/-! ## Frame ticks (R135) -/

/-- A tracker that issues a tick reaches every chain's inbox, and nothing else. -/
theorem putTracker_tick (dt : Nat) (u : Tracker) (s : State) :
    (putTracker (u, true) (elapse dt s)).tracker = u
      ∧ InboxesOnly (fun _ b => { b with ticks := b.ticks + 1 }) s (putTracker (u, true) (elapse dt s))
      ∧ putTracker (u, true) (elapse dt s) = { s with
          time := s.time + dt
          tracker := (putTracker (u, true) (elapse dt s)).tracker
          chains := (putTracker (u, true) (elapse dt s)).chains } :=
  ⟨rfl, deliverTick_inboxes _, rfl⟩

/-! ## Markers (R127 to R133) -/

/-- The tracker that has counted a marker and has yet to take it (R127, R128). -/
def countMarker (t : Tracker) : Tracker := { t with markers := bump t.markers, filter := .held }

section Markers

variable {dt since tnu pe misses good i : Nat} {now due : Word32} {previous : Option Word32} {t : Tracker} {s : State}

/-- A line 1 µs high qualifies a marker, whose instant is the unit in which it had been (R127, R128). -/
theorem exec_marker (hp : s.phase = .running) (hl : s.pins.fmk = true) (hf : s.tracker.filter = .timing since)
    (ht : since + 1 ≤ s.time + dt) :
    exec (.marker dt) s
      = .next (putTracker (markTracker (trackerUnit s.tracker (since + 1)) s.tracker) (elapse dt s)) := by
  have hq : qualifiesAt markerMicros (s.time + dt) (.timing since) = some (since + 1) := if_pos ht
  show Host.Outcome.next (whileRunning _ _) = _
  rw [whileRunning_running hp]
  simp only [markerEvent, elapse_tracker, elapse_pins, elapse_time, hf, hq, hl, if_true]

theorem markTracker_search (hm : t.mode = .search previous good due) :
    markTracker now t = searchMarker now previous good due (countMarker t) := by
  simp only [markTracker, countMarker, hm]

theorem markTracker_locked (hm : t.mode = .locked pe misses) :
    markTracker now t = lockedMarker now pe misses (countMarker t) := by
  simp only [markTracker, countMarker, hm]

theorem goodInterval_iff : goodInterval tnu i = true ↔ tnu - tnu / 8 ≤ i ∧ i ≤ tnu + tnu / 8 :=
  Bool.and_eq_true_iff.trans (and_congr decide_eq_true_iff decide_eq_true_iff)

theorem insideWindow_iff : insideWindow pe i = true ↔ pe - pe / 16 ≤ i ∧ i ≤ pe + pe / 16 :=
  Bool.and_eq_true_iff.trans (and_congr decide_eq_true_iff decide_eq_true_iff)

/-- The interval since a previous marker decides the good count (R129). -/
theorem goodCount_some (m : Word32) :
    goodCount tnu now (some m) good
      = if tnu - tnu / 8 ≤ (now - m).toNat ∧ (now - m).toNat ≤ tnu + tnu / 8 then good + 1 else 0 :=
  if_congr goodInterval_iff rfl rfl

/-- The clamp to the estimate band as an integer (R132). -/
theorem clampBand_eq (tnu : Nat) (x : Int) :
    (clampBand tnu x : Int) = max ((tnu : Int) - (tnu / 8 : Nat)) (min ((tnu : Int) + (tnu / 8 : Nat)) x) := by
  unfold clampBand tolerance
  omega

/-- A good interval already lies in the estimate band. -/
theorem clampBand_of_good (h : goodInterval tnu i = true) : clampBand tnu i = i := by
  obtain ⟨hlow, hhigh⟩ := goodInterval_iff.mp h
  have := clampBand_eq tnu i
  omega

/-- A marker that does not complete acquisition becomes the previous marker, without a tick (R129). -/
theorem searchMarker_short (h : goodCount (periodUnits t.tn) now previous good ≠ 4) :
    searchMarker now previous good due t
      = ({ t with mode := .search (some now) (goodCount (periodUnits t.tn) now previous good) due }, false) := by
  cases previous with
  | none => rfl
  | some m => exact if_neg h

/-- The fourth good interval in a row locks, and becomes the estimate (R130). -/
theorem searchMarker_locks {m : Word32} (h : goodCount (periodUnits t.tn) now (some m) good = 4) :
    searchMarker now (some m) good due t
      = ({ t with mode := .locked (now - m).toNat 0, lastTick := now, locks := bump t.locks }, true) := by
  have hgood : goodInterval (periodUnits t.tn) (sinceTick now m) = true := by
    by_contra hbad
    rw [goodCount, if_neg hbad] at h
    exact absurd h (by decide)
  refine (if_pos h).trans ?_
  rw [clampBand_of_good hgood]
  rfl

/-- A marker inside the window moves the estimate and issues a tick (R132). -/
theorem lockedMarker_onTime
    (h : pe - pe / 16 ≤ (now - t.lastTick).toNat ∧ (now - t.lastTick).toNat ≤ pe + pe / 16) :
    lockedMarker now pe misses t
      = ({ t with mode := .locked (nextEstimate (10 * t.tn) pe (now - t.lastTick).toNat) 0, lastTick := now }, true) :=
  if_pos (insideWindow_iff.mpr h)

/-- A marker outside the window is a stray (R133). -/
theorem lockedMarker_stray
    (h : (now - t.lastTick).toNat < pe - pe / 16 ∨ pe + pe / 16 < (now - t.lastTick).toNat) :
    lockedMarker now pe misses t = ({ t with mode := .locked pe misses, strays := bump t.strays }, false) :=
  if_neg fun hin => by
    obtain ⟨hlow, hhigh⟩ : _ ≤ (now - t.lastTick).toNat ∧ (now - t.lastTick).toNat ≤ _ := insideWindow_iff.mp hin
    omega

end Markers

/-- Settles O33: the good count the marker brings is `goodCount`, and decides between acquisition and a longer search. -/
theorem markersAcquireLock : Obligations.MarkersAcquireLock := by
  intro dt since previous good due s hp hl hf ht hm hg
  refine ⟨_, goodCount (10 * s.tracker.tn) (trackerUnit s.tracker (since + 1)) previous good, _,
    exec_marker hp hl hf ht, rfl, fun h => ?first, fun m h => ?interval, fun h => ?short, fun m h hlock => ?lock⟩
  case first =>
    subst h
    rfl
  case interval =>
    subst h
    exact goodCount_some m
  case short =>
    rw [markTracker_search hm, searchMarker_short (t := countMarker s.tracker) h]
    rfl
  case lock =>
    subst h
    rw [markTracker_search hm, searchMarker_locks (t := countMarker s.tracker) hlock]
    exact putTracker_tick dt _ s

/-- Settles O34: the window about the expected instant decides between an on-time marker and a stray. -/
theorem markersTrackPeriod : Obligations.MarkersTrackPeriod := by
  intro dt since pe misses s hp hl hf ht hm
  refine ⟨_, _, _, exec_marker hp hl hf ht, rfl, rfl, fun h => ?onTime, fun h => ?stray⟩
  case onTime =>
    rw [markTracker_locked hm, lockedMarker_onTime (t := countMarker s.tracker) h]
    obtain ⟨htracker, hinbox, hrest⟩ := putTracker_tick dt _ s
    exact ⟨_, htracker, clampBand_eq _ _, hinbox, hrest⟩
  case stray =>
    rw [markTracker_locked hm, lockedMarker_stray (t := countMarker s.tracker) h, ← hm]
    rfl

/-! ## The tracker's timers (R129, R131, R134) -/

section Timers

variable {dt pe misses good : Nat} {m due : Word32} {previous : Option Word32} {s : State}

theorem exec_fallbackTick (hp : s.phase = .running) (hm : s.tracker.mode = .search previous good due)
    (hd : reached (trackerTime (elapse dt s)) due = true) :
    exec (.fallbackTick dt) s
      = .next (putTracker (fallbackAt (trackerTime (elapse dt s)) previous good s.tracker, true) (elapse dt s)) := by
  show Host.Outcome.next (whileRunning _ _) = _
  rw [whileRunning_running hp]
  simp only [fallbackEvent, elapse_tracker, hm, hd, if_true]

theorem exec_previousMarkerDrop (hp : s.phase = .running) (hm : s.tracker.mode = .search (some m) good due)
    (hd : 2 * (10 * s.tracker.tn) ≤ (trackerTime (elapse dt s) - m).toNat) :
    exec (.previousMarkerDrop dt) s
      = .next (setTracker { s.tracker with mode := .search none 0 due } (elapse dt s)) := by
  have hold : 2 * periodUnits s.tracker.tn ≤ sinceTick (trackerTime (elapse dt s)) m := hd
  show Host.Outcome.next (whileRunning _ _) = _
  rw [whileRunning_running hp]
  simp only [dropPrevious, elapse_tracker, hm, hold, if_true]

theorem exec_windowClose (hp : s.phase = .running) (hm : s.tracker.mode = .locked pe misses)
    (hd : pe + pe / 16 + 1 ≤ (trackerTime (elapse dt s) - s.tracker.lastTick).toNat) :
    exec (.windowClose dt) s = .next (putTracker (missWindow pe misses s.tracker, true) (elapse dt s)) := by
  have hclosed : pe + halfWindow pe + 1 ≤ sinceTick (trackerTime (elapse dt s)) s.tracker.lastTick := hd
  show Host.Outcome.next (whileRunning _ _) = _
  rw [whileRunning_running hp]
  simp only [windowEvent, elapse_tracker, hm, hclosed, if_true]

/-- A missed window: the estimate stands until the eighth in a row loses lock (R134). -/
theorem missWindow_eq (pe misses : Nat) (t : Tracker) :
    missWindow pe misses t = { t with
      lastTick := t.lastTick + BitVec.ofNat 32 pe, virtuals := bump t.virtuals
      losses := if misses < 7 then t.losses else bump t.losses
      mode := if misses < 7 then .locked pe (misses + 1)
        else .search none 0 (t.lastTick + BitVec.ofNat 32 pe + BitVec.ofNat 32 (10 * t.tn)) } := by
  by_cases h : misses < 7
  · have hkept : misses + 1 < missLimit := Nat.succ_lt_succ h
    simp only [missWindow, if_pos hkept, if_pos h]
  · have hlost : ¬ misses + 1 < missLimit := fun hlt => h (Nat.lt_of_succ_lt_succ hlt)
    simp only [missWindow, if_neg hlost, if_neg h, periodUnits]

end Timers

/-- Settles O35: each timer's event leaves its own tracker, and all but the drop of a previous marker issue a tick. -/
theorem trackerTimersIssueTicks : Obligations.TrackerTimersIssueTicks := by
  refine ⟨fun dt previous good due s hp hm hd => ?fallback, fun dt m good due s => exec_previousMarkerDrop,
    fun dt pe misses s hp hm hd => ?window⟩
  case fallback =>
    exact ⟨_, exec_fallbackTick hp hm hd, putTracker_tick dt _ s⟩
  case window =>
    obtain ⟨htracker, hissued⟩ := putTracker_tick dt (missWindow pe misses s.tracker) s
    exact ⟨_, exec_windowClose hp hm hd, htracker.trans (missWindow_eq pe misses s.tracker), hissued⟩

end Sys2Proof.Machine
end

section
/-! PROOFS. The level bus (section 8.2): what its arbiter chooses, and what a transfer's end and a level handed over leave
of it. -/

namespace Sys2Proof.Machine

/-! ## The bus at rest (R140, R142) -/

/-- No pending value equals the bus value, and nothing waits while the bus is free: `BusSafe` of the bus alone. -/
structure BusQuiet (b : LevelBus) : Prop where
  differs : ∀ c, b.pending.get c ≠ some (busValue b c)
  free    : b.inFlight = none → ∀ c, b.pending.get c = none

theorem busSafe_iff (s : State) :
    BusSafe s ↔ (∀ c, settledLevel s.levelBus c = (recordOf s c).applied) ∧ BusQuiet s.levelBus :=
  ⟨fun h => ⟨h.agrees, h.differs, h.free⟩, fun ⟨ha, hq⟩ => ⟨ha, hq.differs, hq.free⟩⟩

theorem busValue_free {b : LevelBus} (h : b.inFlight = none) (c : ChainNo) : busValue b c = b.lastSent.get c := by
  unfold busValue
  rw [h]

/-- A free bus whose arbiter finds no chain has nothing waiting but what the stages already hold. -/
theorem busWinner_none {b : LevelBus} (h : busWinner b = none) {c : ChainNo} {v : Nat} (hv : b.pending.get c = some v) :
    v = b.lastSent.get c :=
  Classical.byContradiction fun hne => busWinner_some hv hne h

/-- The arbiter leaves the bus at rest where no pending value was the bus value (R142). -/
theorem arbitrate_quiet (now : Nat) {b : LevelBus} (h : ∀ c, b.pending.get c ≠ some (busValue b c)) :
    BusQuiet (arbitrate now b) := by
  unfold arbitrate
  split
  · next hi => exact ⟨h, fun hn => nomatch hi.symm.trans hn⟩
  · next hi =>
    split
    · next hw =>
      refine ⟨h, fun _ c => Option.eq_none_iff_forall_ne_some.mpr fun v hv => h c ?_⟩
      rw [hv, busValue_free hi, busWinner_none hw hv]
    · next d hd =>
      obtain ⟨v, hv, -⟩ := busWinner_pending hd
      simp only [beginTransfer, hv]
      refine ⟨fun c => ?_, nofun⟩
      by_cases hc : c = d
      · simp [hc]
      · have hval : busValue { b with pending := b.pending.set d none, inFlight := some ⟨d, v, now⟩, lastServed := d } c
            = busValue b c := by
          simp [busValue, hi, Ne.symm hc]
        rw [hval, Quad.get_set_other _ _ hc]
        exact h c

/-- A level handed over leaves the bus at rest (R140). -/
theorem handOffBus_quiet (now : Nat) (c : ChainNo) (a : Nat) {b : LevelBus} (h : BusQuiet b) :
    BusQuiet (handOffBus now c a b) := by
  refine arbitrate_quiet now fun d => ?_
  have hval : busValue { b with pending := b.pending.set c (pendingFor b c a) } d = busValue b d := rfl
  rw [hval]
  by_cases hd : d = c
  · rw [hd, Quad.get_set_same]
    unfold pendingFor
    split
    · exact nofun
    · next hne => exact fun he => hne (Option.some.inj he)
  · rw [Quad.get_set_other _ _ hd]
    exact h.differs d

/-- The bus once its transfer has landed, before the next one starts. -/
def landed (t : Transfer) (b : LevelBus) : LevelBus :=
  { b with lastSent := b.lastSent.set t.chain t.level, inFlight := none }

theorem endTransfer_eq (now : Nat) (t : Transfer) (b : LevelBus) : endTransfer now t b = arbitrate now (landed t b) := rfl

/-- A transfer's landing moves no bus value: what was in flight is now last sent. -/
theorem busValue_landed {t : Transfer} {b : LevelBus} (h : b.inFlight = some t) (c : ChainNo) :
    busValue (landed t b) c = busValue b c := by
  unfold busValue landed
  rw [h]
  dsimp only
  rw [Quad.get_set]
  simp only [eq_comm]

theorem endTransfer_settled (now : Nat) {t : Transfer} {b : LevelBus} (h : b.inFlight = some t) (c : ChainNo) :
    settledLevel (endTransfer now t b) c = settledLevel b c := by
  rw [endTransfer_eq, arbitrate_settled]
  unfold settledLevel
  rw [busValue_landed h]
  rfl

theorem endTransfer_quiet (now : Nat) {t : Transfer} {b : LevelBus} (h : b.inFlight = some t) (hq : BusQuiet b) :
    BusQuiet (endTransfer now t b) := by
  refine arbitrate_quiet now fun c => ?_
  show b.pending.get c ≠ some (busValue (landed t b) c)
  rw [busValue_landed h]
  exact hq.differs c

/-! ## The arbiter's choice (R142) -/

/-- The place of a chain in the cyclic order. -/
theorem cyclicAfter_getElem (c : ChainNo) (k : Fin 4) : (cyclicAfter c)[k.val]'k.isLt = c + 1 + Fin.ofNat 4 k.val := by
  revert c k
  decide

/-- The first chain in the cyclic order with a property that those before it lack. -/
theorem find_cyclicAfter {p : ChainNo → Bool} {l c : ChainNo} {k : Nat} (hc : c = l + 1 + Fin.ofNat 4 k) (hk : k < 4)
    (hp : p c = true) (hb : ∀ d j, d = l + 1 + Fin.ofNat 4 j → j < k → p d = false) :
    (cyclicAfter l).find? p = some c := by
  refine List.find?_eq_some_iff_getElem.mpr
    ⟨hp, k, hk, (cyclicAfter_getElem l ⟨k, hk⟩).trans hc.symm, fun j hj => ?_⟩
  have hd := hb _ j (cyclicAfter_getElem l ⟨j, hj.trans hk⟩) hj
  exact congrArg Bool.not hd

section Choice

variable {b : LevelBus} {c : ChainNo} {k v : Nat}

theorem reductionPending_eq_false :
    reductionPending b c = false ↔ ∀ v, b.pending.get c = some v → b.lastSent.get c ≤ v := by
  unfold reductionPending
  cases b.pending.get c <;> simp

theorem raisePending_eq_false :
    raisePending b c = false ↔ ∀ v, b.pending.get c = some v → v ≤ b.lastSent.get c := by
  unfold raisePending
  cases b.pending.get c <;> simp

/-- The first reduction in the cyclic order is served. -/
theorem busWinner_reduction (hc : c = b.lastServed + 1 + Fin.ofNat 4 k) (hk : k < 4) (hv : b.pending.get c = some v)
    (hlt : v < b.lastSent.get c)
    (hb : ∀ (d : ChainNo) (j w : Nat), d = b.lastServed + 1 + Fin.ofNat 4 j → j < k → b.pending.get d = some w →
      b.lastSent.get d ≤ w) : busWinner b = some c := by
  have hf : (cyclicAfter b.lastServed).find? (reductionPending b) = some c :=
    find_cyclicAfter hc hk (by simp [reductionPending, hv, hlt])
      fun d j hd hj => reductionPending_eq_false.mpr fun w => hb d j w hd hj
  simp only [busWinner, hf]

/-- Where no reduction waits, the first raise in the cyclic order is served. -/
theorem busWinner_raise (hc : c = b.lastServed + 1 + Fin.ofNat 4 k) (hk : k < 4) (hv : b.pending.get c = some v)
    (hlt : b.lastSent.get c < v) (hr : ∀ (d : ChainNo) (w : Nat), b.pending.get d = some w → b.lastSent.get d ≤ w)
    (hb : ∀ (d : ChainNo) (j w : Nat), d = b.lastServed + 1 + Fin.ofNat 4 j → j < k → b.pending.get d = some w →
      w ≤ b.lastSent.get d) : busWinner b = some c := by
  have hn : (cyclicAfter b.lastServed).find? (reductionPending b) = none :=
    List.find?_eq_none.mpr fun d _ => by simp [reductionPending_eq_false.mpr (hr d)]
  have hf : (cyclicAfter b.lastServed).find? (raisePending b) = some c :=
    find_cyclicAfter hc hk (by simp [raisePending, hv, hlt])
      fun d j hd hj => raisePending_eq_false.mpr fun w => hb d j w hd hj
  simp only [busWinner, hn, hf]

/-- With nothing waiting, the free bus stays as it is. -/
theorem arbitrate_idle (now : Nat) (hi : b.inFlight = none) (hp : ∀ c, b.pending.get c = none) : arbitrate now b = b := by
  have hw : busWinner b = none := by
    cases h : busWinner b with
    | none => rfl
    | some d =>
      obtain ⟨v, hv, -⟩ := busWinner_pending h
      exact nomatch (hp d).symm.trans hv
  simp only [arbitrate, hi, hw]

/-- The free bus starts its winner's pending level. -/
theorem arbitrate_serves (now : Nat) (hi : b.inFlight = none) (hw : busWinner b = some c) (hv : b.pending.get c = some v) :
    arbitrate now b
      = { b with pending := b.pending.set c none, inFlight := some ⟨c, v, now⟩, lastServed := c } := by
  simp only [arbitrate, hi, hw, beginTransfer, hv]

end Choice

theorem exec_levelTransferComplete {dt : Nat} {tr : Transfer} {s : State} (hp : s.phase = .running)
    (h : s.levelBus.inFlight = some tr) (ht : tr.started + 12 ≤ s.time + dt) :
    exec (.levelTransferComplete dt) s
      = .next { elapse dt s with levelBus := arbitrate (s.time + dt) (landed tr s.levelBus) } := by
  have hd : tr.started + transferMicros ≤ (elapse dt s).time := ht
  show Host.Outcome.next (whileRunning _ _) = _
  rw [whileRunning_running hp]
  simp only [transferEvent, elapse_levelBus, h, if_pos hd]
  rfl

/-- Settles O38: the landed bus is free, and its arbiter finds nothing, the first reduction or, without any, the first
raise. -/
theorem transferEndServesNextChain : Obligations.TransferEndServesNextChain := by
  intro dt tr sent s hp hin ht hsent
  subst hsent
  refine ⟨_, exec_levelTransferComplete hp hin ht, rfl, fun hnone => arbitrate_idle (b := landed tr s.levelBus) _ rfl hnone,
    fun c k v hc hk hv hcase => ?_⟩
  have hw : busWinner (landed tr s.levelBus) = some c := by
    obtain ⟨hlt, hb⟩ | ⟨hlt, hr, hb⟩ := hcase
    · exact busWinner_reduction hc hk hv hlt hb
    · exact busWinner_raise hc hk hv hlt hr hb
  exact arbitrate_serves _ rfl hw hv

end Sys2Proof.Machine
end

section
/-! PROOFS. The operations and events that leave the level bus as it was: all but the commit of a chain's record, a level
transfer's end and the resets. -/

namespace Sys2Proof.Machine

/-! ## The shared operations -/

@[simp] theorem raiseSite_levelBus (s : State) : (raiseSite s).levelBus = s.levelBus := by rw [raiseSite_frame]

@[simp] theorem raiseCapture_levelBus (s : State) : (raiseCapture s).levelBus = s.levelBus := by rw [raiseCapture_frame]

@[simp] theorem setAlarms_levelBus (a : AlarmReasons) (s : State) : (setAlarms a s).levelBus = s.levelBus := by
  rw [setAlarms_frame]

@[simp] theorem startWrite_levelBus (s : State) : (startWrite s).levelBus = s.levelBus := by rw [startWrite_frame]

@[simp] theorem endWrite_levelBus (s : State) : (endWrite s).levelBus = s.levelBus := startWrite_levelBus _

@[simp] theorem deliverSite_levelBus (x : SiteDelivery) (s : State) : (deliverSite x s).levelBus = s.levelBus := by
  rw [deliverSite_frame]

@[simp] theorem setSiteIntake_levelBus (l : List (IntakeEvent SiteReadings)) (s : State) :
    (setSiteIntake l s).levelBus = s.levelBus := rfl

@[simp] theorem setFastLine_levelBus (n : FastLineNo) (l : FastLine) (s : State) :
    (setFastLine n l s).levelBus = s.levelBus := by
  cases n <;> rfl

@[simp] theorem forwardPulse_levelBus (n : FastLineNo) (stamp : PulseStamp) (s : State) :
    (forwardPulse n stamp s).levelBus = s.levelBus := by
  cases n <;> rfl

@[simp] theorem acceptFrame_levelBus (g : GroupNo) (header : Word16) (fields : List Word16) (s : State) :
    (acceptFrame g header fields s).levelBus = s.levelBus := by
  cases g <;> rfl

@[simp] theorem putTracker_levelBus (x : Tracker × Bool) (s : State) : (putTracker x s).levelBus = s.levelBus := by
  unfold putTracker
  dsimp only
  split <;> rfl

@[simp] theorem produceReply_levelBus (kind tag : Byte) (a : Answer) (s : State) :
    (produceReply kind tag a s).levelBus = s.levelBus := by
  cases a <;> rfl

@[simp] theorem overlapSlot_levelBus (kind tag : Byte) (s : State) :
    (overlapSlot kind tag s).levelBus = s.levelBus := by
  unfold overlapSlot
  split <;> rfl

@[simp] theorem replyLoadEnd_levelBus (w : SlotWrite) (s : State) : (replyLoadEnd w s).levelBus = s.levelBus := by
  unfold replyLoadEnd
  split <;> rfl

@[simp] theorem messageSent_levelBus (t : Transmission) (s : State) : (messageSent t s).levelBus = s.levelBus := by
  unfold messageSent
  split <;> rfl

@[simp] theorem makeActive_levelBus (d : Designation) (p : Profile) (s : State) :
    (makeActive d p s).levelBus = s.levelBus := by
  unfold makeActive setDefaultReason
  rw [setAlarms_levelBus]
  rfl

@[simp] theorem persistDirectory_levelBus (persist : Bool) (d : Designation) (s : State) :
    (persistDirectory persist d s).levelBus = s.levelBus := by
  unfold persistDirectory requestDirectoryWrite
  split
  · rw [startWrite_levelBus]
  · rfl

@[simp] theorem commitImage_levelBus (k : Fin 3) (image : List Byte) (s : State) :
    (commitImage k image s).levelBus = s.levelBus := startWrite_levelBus _

/-! ## The Measurement Intake -/

theorem sampleFrameEvent_levelBus (bits : List Bool) (s : State) : (sampleFrameEvent bits s).levelBus = s.levelBus := by
  have hend : ∀ g x, (endFrame bits g x s).levelBus = s.levelBus := by
    intro g x
    unfold endFrame
    extract_lets s1
    split
    · rfl
    · exact acceptFrame_levelBus _ _ _ s1
  unfold sampleFrameEvent
  split
  · split
    · split
      · exact hend _ _
      · rfl
    · rfl
  · rfl

theorem discardGroup_levelBus (bits : List Bool) (s : State) : (discardGroup bits s).levelBus = s.levelBus := by
  unfold discardGroup
  split <;> rfl

theorem restartFrame_levelBus (bits : List Bool) (s : State) : (restartFrame bits s).levelBus = s.levelBus := by
  unfold restartFrame
  split <;> rfl

theorem timeOutFrame_levelBus (bits : List Bool) (quiet : Nat) (s : State) :
    (timeOutFrame bits quiet s).levelBus = s.levelBus := by
  unfold timeOutFrame
  split
  · split <;> rfl
  · rfl

theorem matchSync_levelBus (bits : List Bool) (s : State) : (matchSync bits s).levelBus = s.levelBus := by
  unfold matchSync
  split
  · split <;> rfl
  · rfl

theorem reachStale_levelBus (g : GroupNo) (s : State) : (reachStale g s).levelBus = s.levelBus := by
  unfold reachStale
  split <;> split <;> rfl

theorem reachLost_levelBus (g : GroupNo) (s : State) : (reachLost g s).levelBus = s.levelBus := by
  unfold reachLost
  split <;> split <;> rfl

theorem edgeFlow_levelBus (c : ChainNo) (high : Bool) (s : State) : (edgeFlow c high s).levelBus = s.levelBus := by
  unfold edgeFlow whileRunning
  split
  · rfl
  · split <;> rfl

theorem qualifyFlow_levelBus (c : ChainNo) (s : State) : (qualifyFlow c s).levelBus = s.levelBus := by
  unfold qualifyFlow
  dsimp only
  split <;> rfl

theorem rearmFlow_levelBus (c : ChainNo) (s : State) : (rearmFlow c s).levelBus = s.levelBus := by
  unfold rearmFlow
  dsimp only
  split <;> rfl

theorem endGate_levelBus (s : State) : (endGate s).levelBus = s.levelBus := by
  unfold endGate
  split <;> rfl

/-! ## The Fast Mute Unit and the Frame Timing Reference -/

theorem edgeFast_levelBus (n : FastLineNo) (high : Bool) (s : State) : (edgeFast n high s).levelBus = s.levelBus := by
  unfold edgeFast whileRunning
  split
  · rfl
  · split
    · rw [setFastLine_levelBus]
    · rfl

theorem qualifyFast_levelBus (n : FastLineNo) (s : State) : (qualifyFast n s).levelBus = s.levelBus := by
  unfold qualifyFast
  dsimp only
  split
  · split
    · rw [forwardPulse_levelBus, setFastLine_levelBus]
    · rfl
  · rfl

theorem rearmFast_levelBus (n : FastLineNo) (s : State) : (rearmFast n s).levelBus = s.levelBus := by
  unfold rearmFast
  dsimp only
  split
  · exact setFastLine_levelBus _ _ _
  · rfl

theorem fastMuteActivationEvent_levelBus (s : State) : (fastMuteActivationEvent s).levelBus = s.levelBus := by
  unfold fastMuteActivationEvent
  split <;> rfl

theorem edgeMarker_levelBus (high : Bool) (s : State) : (edgeMarker high s).levelBus = s.levelBus := by
  unfold edgeMarker whileRunning
  split
  · rfl
  · split <;> rfl

theorem rearmMarker_levelBus (s : State) : (rearmMarker s).levelBus = s.levelBus := by
  unfold rearmMarker
  split <;> rfl

theorem markerEvent_levelBus (s : State) : (markerEvent s).levelBus = s.levelBus := by
  unfold markerEvent
  split
  · split
    · exact putTracker_levelBus _ s
    · rfl
  · rfl

theorem fallbackEvent_levelBus (s : State) : (fallbackEvent s).levelBus = s.levelBus := by
  unfold fallbackEvent
  split
  · split
    · exact putTracker_levelBus _ s
    · rfl
  · rfl

theorem dropPrevious_levelBus (s : State) : (dropPrevious s).levelBus = s.levelBus := by
  unfold dropPrevious
  split
  · split <;> rfl
  · rfl

theorem windowEvent_levelBus (s : State) : (windowEvent s).levelBus = s.levelBus := by
  unfold windowEvent
  split
  · split
    · exact putTracker_levelBus _ s
    · rfl
  · rfl

theorem trackerActivationEvent_levelBus (s : State) : (trackerActivationEvent s).levelBus = s.levelBus := by
  unfold trackerActivationEvent
  split
  · rfl
  · dsimp only
    split
    · rfl
    · exact putTracker_levelBus _ s

/-! ## The interlock and the Site Monitor -/

theorem edgeInterlock_levelBus (high : Bool) (s : State) : (edgeInterlock high s).levelBus = s.levelBus := by
  unfold edgeInterlock whileRunning
  split
  · rfl
  · split <;> rfl

theorem closingEvent_levelBus (c : ChainNo) (s : State) : (closingEvent c s).levelBus = s.levelBus := by
  unfold closingEvent
  split <;> rfl

theorem siteActivationEvent_levelBus (s : State) : (siteActivationEvent s).levelBus = s.levelBus := by
  unfold siteActivationEvent
  split
  · rfl
  · exact deliverSite_levelBus _ _

theorem takeSiteEvaluation_levelBus (x : SiteReadings) (returned : Bool) (s : State) :
    (takeSiteEvaluation x returned s).levelBus = s.levelBus := by
  unfold takeSiteEvaluation
  extract_lets old r s1 s2
  have h1 : s1.levelBus = s.levelBus := by
    simp only [s1]
    split <;> simp [setSiteLostReason]
  split <;> simp [s2, h1]

theorem takeSiteStale_levelBus (s : State) : (takeSiteStale s).levelBus = s.levelBus := by simp [takeSiteStale]

theorem takeSiteLost_levelBus (s : State) : (takeSiteLost s).levelBus = s.levelBus := by
  simp [takeSiteLost, setSiteLostReason]

/-! ## The load timer and the Control Link's receiver -/

theorem loadTimerEvent_levelBus (s : State) : (loadTimerEvent s).levelBus = s.levelBus := by
  unfold loadTimerEvent
  split
  · split <;> rfl
  · rfl

theorem startFrame_levelBus (skipped : List Byte) (s : State) : (startFrame skipped s).levelBus = s.levelBus := by
  unfold startFrame
  split <;> rfl

theorem framingErrorEvent_levelBus (character : List Bool) (s : State) :
    (framingErrorEvent character s).levelBus = s.levelBus := by
  unfold framingErrorEvent
  split <;> rfl

theorem discardFrame_levelBus (frame : List Byte) (s : State) : (discardFrame frame s).levelBus = s.levelBus := by
  unfold discardFrame
  split <;> rfl

theorem gapEvent_levelBus (frame : List Byte) (quiet : Nat) (s : State) :
    (gapEvent frame quiet s).levelBus = s.levelBus := by
  unfold gapEvent
  split
  · split <;> rfl
  · rfl

end Sys2Proof.Machine
end

section
/-! PROOFS. Every step keeps the level bus in agreement with the chains (R140, R142, R144). -/

namespace Sys2Proof.Machine

/-! ## How it is kept -/

theorem BusSafe.quiet {s : State} (h : BusSafe s) : BusQuiet s.levelBus := ((busSafe_iff s).mp h).2

/-- The bus and each chain's A are as they were. -/
theorem BusSafe.kept_applied {s t : State} (h : BusSafe s) (hb : t.levelBus = s.levelBus)
    (ha : ∀ c, (recordOf t c).applied = (recordOf s c).applied) : BusSafe t := by
  rw [busSafe_iff, hb]
  exact ⟨fun c => (h.agrees c).trans (ha c).symm, h.quiet⟩

theorem BusSafe.kept {s t : State} (h : BusSafe s) (hb : t.levelBus = s.levelBus)
    (hr : ∀ c, recordOf t c = recordOf s c) : BusSafe t := h.kept_applied hb fun c => by rw [hr]

theorem BusSafe.supervised {s t : State} (h : BusSafe s) (hb : t.levelBus = s.levelBus) (k : SupervisionKept s t) :
    BusSafe t := h.kept hb k.records

/-- A record committed hands its A over where it changed (R140). -/
theorem BusSafe.commitChain {s : State} (h : BusSafe s) (c : ChainNo) (r : ChainRecord) :
    BusSafe (commitChain c r s) := by
  have hb : (Machine.commitChain c r s).levelBus = busAfter c r s.time s := by rw [commitChain_frame]
  rw [busSafe_iff, hb]
  unfold busAfter
  split
  · next ha =>
    refine ⟨fun d => ?_, h.quiet⟩
    rw [commitChain_recordOf]
    split
    · next hd =>
      rw [ha, hd]
      exact h.agrees c
    · exact h.agrees d
  · refine ⟨fun d => ?_, handOffBus_quiet _ c _ h.quiet⟩
    rw [handOffBus_settled, commitChain_recordOf]
    split
    · rfl
    · exact h.agrees d

theorem BusSafe.setInbox {s : State} (h : BusSafe s) (c : ChainNo) (b : ChainInbox) : BusSafe (setInbox c b s) :=
  h.kept rfl fun d => setInbox_recordOf c d b s

theorem BusSafe.finish {s : State} (h : BusSafe s) : BusSafe (finish s) :=
  h.kept (finish_levelBus s) (finish_recordOf s)

theorem BusSafe.slowTrip {s : State} (h : BusSafe s) (c : ChainNo) (cause : TripCause) (tripTime : Word32)
    (run : RunState) (a : Nat) (r : ChainRecord) : BusSafe (slowTrip c cause tripTime run a r s) := by
  have hh : BusSafe (handRecord (chainSource c) (slowCapture s c cause tripTime run a r) s) := h.kept rfl fun _ => rfl
  exact hh.commitChain c _

/-- A record of chain `c` replaced by one with the same A. -/
theorem BusSafe.setRecord {s : State} (h : BusSafe s) (c : ChainNo) {r : ChainRecord}
    (ha : r.applied = (recordOf s c).applied) : BusSafe (setRecord c r s) := by
  refine h.kept_applied rfl fun d => ?_
  rw [setRecord_recordOf]
  split
  · next hd => rw [ha, hd]
  · rfl

/-- An operation that keeps every bus in agreement. -/
def KeepsBusSafe (f : State → State) : Prop := ∀ s, BusSafe s → BusSafe (f s)

/-- An operation that leaves the bus and the chain records. -/
theorem keepsBusSafe_of_kept {f : State → State} (hb : ∀ s, (f s).levelBus = s.levelBus)
    (hr : ∀ s, OutputsKept s (f s)) : KeepsBusSafe f := fun s h => h.kept (hb s) (hr s).records

theorem BusSafe.later {s : State} (h : BusSafe s) (dt : Nat) : BusSafe (elapse dt s) := h.kept rfl fun _ => rfl

/-- A command taken only while the part runs. -/
theorem BusSafe.runs {s : State} (h : BusSafe s) (dt : Nat) {f : State → State} (hf : KeepsBusSafe f) :
    BusSafe (whileRunning f (elapse dt s)) := by
  unfold whileRunning
  split
  · exact hf _ (h.later dt)
  · exact h.later dt

/-! ## What a chain takes -/

section Taking

variable {s : State} (h : BusSafe s) (c : ChainNo)
include h

theorem takeFlowResult_busSafe (x : FlowResult) : BusSafe (takeFlowResult c x s) := by
  unfold takeFlowResult
  extract_lets old r
  split
  · split
    · exact h.slowTrip c _ _ _ _ r
    · exact h.commitChain c r
  · exact h.commitChain c r

theorem takeEvaluation_busSafe (x : ChainReadings) (returned : Bool) : BusSafe (takeEvaluation c x returned s) := by
  unfold takeEvaluation
  extract_lets p old r
  split
  · split
    · exact h.slowTrip c _ _ _ _ r
    · exact h.commitChain c _
  · split
    · exact h.slowTrip c _ _ _ _ r
    · exact h.commitChain c _
  · exact h.commitChain c _
  · exact h.commitChain c r

theorem takeLost_busSafe (due : Word32) : BusSafe (takeLost c due s) := by
  unfold takeLost
  extract_lets old r
  split
  · exact h.slowTrip c _ _ _ _ _
  · exact h.commitChain c _

theorem takeSiteTrip_busSafe (x : SiteTrip) : BusSafe (takeSiteTrip c x s) := by
  unfold takeSiteTrip
  extract_lets old
  split
  · exact h.slowTrip c _ _ _ _ old
  · exact h.commitChain c _

theorem takeOpening_busSafe : BusSafe (takeOpening c s) := by
  unfold takeOpening
  extract_lets old
  split
  · exact h.commitChain c _
  · exact h.commitChain c _

theorem takeActivation_busSafe (p : Profile) : BusSafe (takeActivation c p s) := by
  have hp : BusSafe (setChain c { chainOfState s c with profile := p } s) :=
    h.kept rfl fun d => setProfile_recordOf c d p s
  exact hp.commitChain c _

theorem switchOff_busSafe : BusSafe (switchOff c s) := by
  unfold switchOff
  extract_lets r
  split
  · exact h
  · have hh : ∀ x, BusSafe (handRecord (chainSource c) x s) := fun x => h.kept rfl fun _ => rfl
    exact (hh _).commitChain c _
  · exact h.commitChain c _

end Taking

/-! ## The chains' events -/

theorem flowResultEvent_keepsBus (c : ChainNo) : KeepsBusSafe (flowResultEvent c) := by
  intro s h
  unfold flowResultEvent
  split
  · exact h
  · exact (takeFlowResult_busSafe (h.setInbox c _) c _).finish

theorem evaluationEvent_keepsBus (c : ChainNo) : KeepsBusSafe (evaluationEvent c) := by
  intro s h
  unfold evaluationEvent
  split
  · exact (takeEvaluation_busSafe (h.setInbox c _) c _ _).finish
  · exact h

theorem freshnessEvent_keepsBus (c : ChainNo) : KeepsBusSafe (freshnessEvent c) := by
  intro s h
  unfold freshnessEvent
  split
  · exact ((h.setInbox c _).commitChain c _).finish
  · exact (takeLost_busSafe (h.setInbox c _) c _).finish
  · exact h

theorem ceilingEvent_keepsBus (c : ChainNo) : KeepsBusSafe (ceilingEvent c) := by
  intro s h
  unfold ceilingEvent
  split
  · exact ((h.setInbox c _).commitChain c _).finish
  · exact h

theorem siteTripTaken_keepsBus (c : ChainNo) : KeepsBusSafe (siteTripTaken c) := by
  intro s h
  unfold siteTripTaken
  split
  · exact (takeSiteTrip_busSafe (h.setInbox c _) c _).finish
  · exact h

theorem siteLossTaken_keepsBus (c : ChainNo) : KeepsBusSafe (siteLossTaken c) := by
  intro s h
  unfold siteLossTaken
  split
  · exact ((h.setInbox c _).commitChain c _).finish
  · exact h

theorem openingEvent_keepsBus (c : ChainNo) : KeepsBusSafe (openingEvent c) := by
  intro s h
  unfold openingEvent
  split
  · exact (takeOpening_busSafe (h.setInbox c _) c).finish
  · exact h

theorem arcEvent_keepsBus (c : ChainNo) : KeepsBusSafe (arcEvent c) := by
  intro s h
  unfold arcEvent
  split
  · exact h
  · exact ((h.setInbox c _).commitChain c _).finish

theorem surgeEvent_keepsBus (c : ChainNo) : KeepsBusSafe (surgeEvent c) := by
  intro s h
  unfold surgeEvent
  split
  · exact h
  · exact ((h.setInbox c _).commitChain c _).finish

theorem tickEvent_keepsBus (c : ChainNo) : KeepsBusSafe (tickEvent c) := by
  intro s h
  unfold tickEvent
  split
  · exact h
  · exact ((h.setInbox c _).commitChain c _).finish

theorem chainActivationEvent_keepsBus (c : ChainNo) : KeepsBusSafe (chainActivationEvent c) := by
  intro s h
  unfold chainActivationEvent
  split
  · exact h
  · exact (takeActivation_busSafe (h.setInbox c _) c _).finish

theorem expireWindow_keepsBus (c : ChainNo) : KeepsBusSafe (expireWindow c) := by
  intro s h
  unfold expireWindow
  extract_lets r
  split
  · split
    · have hh : ∀ x, BusSafe (handRecord (chainSource c) x s) := fun x => h.kept rfl fun _ => rfl
      exact ((hh _).commitChain c _).finish
    · exact h
  · exact h

theorem endDwell_keepsBus (c : ChainNo) : KeepsBusSafe (endDwell c) := by
  intro s h
  unfold endDwell
  extract_lets r
  split
  · split
    · exact (h.commitChain c _).finish
    · exact h
  · exact h

theorem expireTrips_keepsBus (c : ChainNo) : KeepsBusSafe (expireTrips c) := fun _ h => h.setRecord c rfl

theorem expireRunOn_keepsBus (c : ChainNo) : KeepsBusSafe (expireRunOn c) := by
  intro s h
  unfold expireRunOn
  extract_lets r
  split
  · split
    · have hr : BusSafe (setRecord c { r with mode := .disabled none } s) := h.setRecord c rfl
      exact hr.finish
    · exact h
  · exact h

/-! ## The other blocks' events -/

/-- A transfer's end moves no settled level (R141). -/
theorem transferEvent_keepsBus : KeepsBusSafe transferEvent := by
  intro s h
  unfold transferEvent
  split
  · next t ht =>
    split
    · exact (busSafe_iff _).mpr
        ⟨fun c => (endTransfer_settled _ ht c).trans (h.agrees c), endTransfer_quiet _ ht h.quiet⟩
    · exact h
  · exact h

theorem joinEvent_keepsBus : KeepsBusSafe joinEvent := by
  intro s h
  unfold joinEvent
  split
  · exact h
  · refine BusSafe.finish (h.kept ?_ fun c => ?_)
    · rw [raiseCapture_levelBus]
    · rw [raiseCapture_frame]
      rfl

theorem lockoutWriteEvent_keepsBus : KeepsBusSafe lockoutWriteEvent := by
  intro s h
  unfold lockoutWriteEvent
  split
  · split
    · exact BusSafe.finish (h.supervised (by simp) (recordWrite_supervisionKept s.alarms.directoryFault false _ s))
    · exact h
  · exact h

theorem directoryWriteEvent_keepsBus : KeepsBusSafe directoryWriteEvent := by
  intro s h
  unfold directoryWriteEvent
  split
  · split
    · exact BusSafe.finish (h.supervised (by simp) (recordWrite_supervisionKept false s.alarms.lockoutRecordFault _ s))
    · exact h
  · exact h

theorem slotWriteEvent_keepsBus : KeepsBusSafe slotWriteEvent := by
  intro s h
  unfold slotWriteEvent
  split
  · next w started _ =>
    have hw : BusSafe
        { s with
          array := { s.array with slots := s.array.slots.set w.slot (.bytes w.image) }
          store := { s.store with slots := s.store.slots.set w.slot .valid, load := .closed } } :=
      h.kept rfl fun _ => rfl
    split
    · exact BusSafe.finish ((hw.supervised (replyLoadEnd_levelBus w _) (replyLoadEnd_supervisionKept w _)).supervised
        (endWrite_levelBus _) (endWrite_supervisionKept _))
    · exact h
  · exact h

theorem siteEvaluationEvent_keepsBus : KeepsBusSafe siteEvaluationEvent := by
  intro s h
  unfold siteEvaluationEvent
  split
  · exact BusSafe.finish (h.supervised (takeSiteEvaluation_levelBus _ _ _)
      ((setSiteIntake_supervisionKept _ s).trans (takeSiteEvaluation_kept _ _ _)))
  · exact h

theorem siteStaleEvent_keepsBus : KeepsBusSafe siteStaleEvent := by
  intro s h
  unfold siteStaleEvent
  split
  · exact BusSafe.finish (h.supervised (takeSiteStale_levelBus _)
      ((setSiteIntake_supervisionKept _ s).trans (takeSiteStale_kept _)))
  · exact h

theorem siteLostEvent_keepsBus : KeepsBusSafe siteLostEvent := by
  intro s h
  unfold siteLostEvent
  split
  · exact BusSafe.finish (h.supervised (takeSiteLost_levelBus _)
      ((setSiteIntake_supervisionKept _ s).trans (takeSiteLost_kept _)))
  · exact h

theorem openInterlock_keepsBus : KeepsBusSafe openInterlock := by
  intro s h
  unfold openInterlock
  split
  · have hk := (setInterlock_supervisionKept .opened s).trans (handRecord_supervisionKept 4 (interlockCapture s) _)
    exact BusSafe.finish (h.supervised (raiseSite_levelBus _) (hk.trans (deliverInterlock_kept _ _)))
  · exact h

theorem closeInterlock_keepsBus : KeepsBusSafe closeInterlock := by
  intro s h
  unfold closeInterlock
  split
  · exact BusSafe.finish (h.supervised (raiseSite_levelBus _)
      ((setInterlock_supervisionKept _ s).trans (deliverInterlock_kept _ _)))
  · exact h

theorem transmitEvent_keepsBus : KeepsBusSafe transmitEvent := by
  intro s h
  unfold transmitEvent
  split
  · split
    · exact (h.supervised (messageSent_levelBus _ s) (messageSent_supervisionKept _ s)).finish
    · exact h
  · exact h

/-! ## Requests -/

/-- A request's owner keeps the bus in agreement. -/
def ServesBus (serve : List Byte → State → State × Answer) : Prop := ∀ body s, BusSafe s → BusSafe (serve body s).1

theorem BusSafe.replied {s : State} (h : BusSafe s) (kind tag : Byte) (a : Answer) :
    BusSafe (Machine.finish (produceReply kind tag a s)) :=
  (h.supervised (produceReply_levelBus kind tag a s) (produceReply_supervisionKept kind tag a s)).finish

theorem serveRequest_keepsBus {serve : List Byte → State → State × Answer} (hv : ServesBus serve) (m : Message)
    (n : Nat) : KeepsBusSafe (serveRequest m n serve) := by
  intro s h
  unfold serveRequest
  split
  · exact (hv m.body s h).replied _ _ _
  · exact h.replied _ _ _

/-- A frame received is taken, or goes to the overlap slot. -/
theorem receiveFrame_keepsBus {m : Message} {take : State → State} (ht : KeepsBusSafe take) :
    KeepsBusSafe (receiveFrame m take) := by
  intro s h
  have h1 : BusSafe (setLinkReceiver .hunting s) := h.kept rfl fun _ => rfl
  unfold receiveFrame
  extract_lets s1
  split
  · exact h1.kept (overlapSlot_levelBus _ _ s1) (overlapSlot_outputsKept _ _ s1).records
  · exact ht _ (h1.kept rfl fun _ => rfl)

theorem takeRequest_keepsBus {serve : List Byte → State → State × Answer} (hv : ServesBus serve) (kind : Byte)
    (n : Nat) (frame : List Byte) : KeepsBusSafe (takeRequest kind n serve frame) := by
  intro s h
  unfold takeRequest
  split
  · split
    · exact receiveFrame_keepsBus (serveRequest_keepsBus hv _ n) s h
    · exact h
  · exact h

theorem takeUnknown_keepsBus (frame : List Byte) : KeepsBusSafe (takeUnknown frame) := by
  intro s h
  unfold takeUnknown
  split
  · split
    · exact receiveFrame_keepsBus (fun _ hu => hu.replied _ _ _) s h
    · exact h
  · exact h

theorem takeOverlap_keepsBus (frame : List Byte) : KeepsBusSafe (takeOverlap frame) := by
  intro s h
  unfold takeOverlap
  split
  · split
    · exact receiveFrame_keepsBus (fun _ hu => hu) s h
    · exact h
  · exact h

/-- An owner that answers and changes nothing. -/
theorem servesBus_reading {serve : List Byte → State → State × Answer} (hs : ∀ body s, (serve body s).1 = s) :
    ServesBus serve := fun body s h => by
  rw [hs]
  exact h

theorem serveChain_servesBus {serve : ChainNo → List Byte → State → State × Answer} (hs : ∀ c, ServesBus (serve c)) :
    ServesBus (serveChain serve) := by
  intro body s h
  unfold serveChain
  split
  · exact hs _ body s h
  · exact h

theorem serveSetLevel_servesBus (c : ChainNo) : ServesBus (serveSetLevel c) := fun _ _ h => h.commitChain c _

theorem serveChainOn_servesBus (c : ChainNo) : ServesBus (serveChainOn c) := by
  intro body s h
  unfold serveChainOn
  extract_lets r
  split
  · exact h
  · exact h.commitChain c _

theorem serveChainOff_servesBus (c : ChainNo) : ServesBus (serveChainOff c) := fun _ _ h => switchOff_busSafe h c

theorem serveClearLockout_servesBus (c : ChainNo) : ServesBus (serveClearLockout c) := fun _ _ h => h.commitChain c _

theorem serveReleaseCapture_servesBus : ServesBus serveReleaseCapture := by
  intro body s h
  unfold serveReleaseCapture
  extract_lets n
  split
  · exact h
  · split
    · exact h.kept rfl fun _ => rfl
    · split <;> exact h

theorem BusSafe.setLoad {s : State} (h : BusSafe s) (l : Load) : BusSafe (setLoad l s) := h.kept rfl fun _ => rfl

theorem serveLoadBegin_servesBus : ServesBus serveLoadBegin := by
  intro body s h
  unfold serveLoadBegin
  split
  · exact h
  · split
    · exact h
    · exact h.setLoad _

theorem serveLoadSegment_servesBus : ServesBus serveLoadSegment := by
  intro body s h
  unfold serveLoadSegment
  extract_lets i
  split
  · exact h
  · exact h
  · split
    · exact h.setLoad _
    · exact h

theorem serveLoadEnd_servesBus : ServesBus serveLoadEnd := by
  intro body s h
  unfold serveLoadEnd
  split
  · exact h
  · exact h
  · split
    · exact h
    · split
      · split
        · exact h.setLoad _
        · exact h.supervised (commitImage_levelBus _ _ s) (commitImage_supervisionKept _ _ s)
      · exact h.setLoad _

theorem serveLoadCancel_servesBus : ServesBus serveLoadCancel := by
  intro body s h
  unfold serveLoadCancel
  split
  · exact h
  · exact h.setLoad _

theorem acceptActivate_busSafe {s : State} (h : BusSafe s) (d : Designation) (p : Profile) (persist : Bool) :
    BusSafe (acceptActivate d p persist s).1 := by
  have hm : BusSafe (makeActive d p s) := h.kept (makeActive_levelBus d p s) (makeActive_recordOf d p s)
  exact hm.supervised (persistDirectory_levelBus _ _ _) (persistDirectory_supervisionKept _ _ _)

theorem serveActivate_servesBus : ServesBus serveActivate := by
  intro body s h
  unfold serveActivate
  extract_lets persist
  split
  · exact h
  · exact acceptActivate_busSafe h _ _ _
  · split
    · exact h
    · exact acceptActivate_busSafe h _ _ _
    · exact h

theorem serveSetNotices_servesBus : ServesBus serveSetNotices := fun _ _ h => h.kept rfl fun _ => rfl

/-! ## Resets and the end of start-up -/

/-- The bus at its start-up values agrees with chains whose A is 0 (R144). -/
theorem busSafe_start {s : State} (hb : s.levelBus = startLevelBus) (ha : ∀ c, (recordOf s c).applied = 0) :
    BusSafe s := by
  have hv : ∀ c, busValue startLevelBus c = 0 := fun c => Quad.get_fill _ c
  rw [busSafe_iff, hb]
  refine ⟨fun c => ?_, fun c => ?_, fun _ => startLevelBus_pending⟩
  · rw [settledLevel, startLevelBus_pending, hv, ha]
    rfl
  · rw [startLevelBus_pending]
    exact nofun

theorem enterReset_busSafe (phase : Phase) (s : State) : BusSafe (enterReset phase s) :=
  busSafe_start rfl fun c => by
    rw [enterReset_recordOf]
    rfl

theorem fallRstN_keepsBus : KeepsBusSafe fallRstN := by
  intro s h
  unfold fallRstN
  dsimp only
  split
  · exact h.kept rfl fun _ => rfl
  · exact enterReset_busSafe _ _

theorem resetByRequest_keepsBus : KeepsBusSafe resetByRequest := by
  intro s h
  unfold resetByRequest
  split
  · exact enterReset_busSafe _ s
  · exact h

theorem riseRstN_keepsBus : KeepsBusSafe riseRstN := by
  intro s h
  unfold riseRstN
  dsimp only
  split
  · exact enterReset_busSafe _ _
  · exact h.kept rfl fun _ => rfl

/-- Placing a chain leaves its A (R25). -/
theorem placeChain_applied {s : State} {c : ChainNo} (hm : (recordOf s c).mode = .disabled none) :
    (placeChain s c).applied = (recordOf s c).applied := by
  obtain ⟨mode, latch, hplace, -⟩ := placeChain_form hm
  rw [hplace]

theorem endStartUp_keepsBus : KeepsBusSafe endStartUp := by
  intro s h
  unfold endStartUp
  split
  · split
    · refine (busSafe_start ?_ fun c => ?_).finish
      · rw [placeChains_frame]
        rfl
      · rw [placeChains_recordOf, placeChain_applied (by rw [startBlocks_recordOf]; rfl), startBlocks_recordOf]
        rfl
    · exact h
  · exact h

/-! ## Every command and every step -/

/-- A command whose event leaves the bus and the chain records. -/
theorem BusSafe.leaves {s : State} (h : BusSafe s) (dt : Nat) {f : State → State}
    (hb : ∀ s, (f s).levelBus = s.levelBus) (hr : ∀ s, OutputsKept s (f s)) :
    BusSafe (whileRunning f (elapse dt s)) := h.runs dt (keepsBusSafe_of_kept hb hr)

/-- An edge of a line in leaves the bus and the chain records in every phase. -/
theorem BusSafe.edge {s : State} (h : BusSafe s) (dt : Nat) {f : State → State}
    (hb : ∀ s, (f s).levelBus = s.levelBus) (hr : ∀ s, OutputsKept s (f s)) : BusSafe (f (elapse dt s)) :=
  keepsBusSafe_of_kept hb hr _ (h.later dt)

/-- A request. -/
theorem BusSafe.takes {s : State} (h : BusSafe s) (dt : Nat) {serve : List Byte → State → State × Answer}
    (hv : ServesBus serve) (kind : Byte) (n : Nat) (frame : List Byte) :
    BusSafe (whileRunning (takeRequest kind n serve frame) (elapse dt s)) :=
  h.runs dt (takeRequest_keepsBus hv kind n frame)

/-- Every command has an effect, and it keeps the bus in agreement with the chains. -/
theorem exec_keepsBus {s : State} (h : BusSafe s) (i : Instr) : ∃ t, exec i s = .next t ∧ BusSafe t := by
  cases i with
  | powerOnReset dt bsel1 bsel0 => exact ⟨_, rfl, enterReset_busSafe _ _⟩
  | warmReset dt cause =>
    cases cause with
    | rstLow => exact ⟨_, rfl, fallRstN_keepsBus _ (h.later dt)⟩
    | requested => exact ⟨_, rfl, resetByRequest_keepsBus _ (h.later dt)⟩
  | startUpEnd dt => exact ⟨_, rfl, endStartUp_keepsBus _ (h.later dt)⟩
  | sampleFrame dt header fields check =>
    exact ⟨_, rfl, h.leaves dt (sampleFrameEvent_levelBus _) (sampleFrameEvent_outputsKept _)⟩
  | groupDiscard dt header => exact ⟨_, rfl, h.leaves dt (discardGroup_levelBus _) (discardGroup_outputsKept _)⟩
  | shortFrameSync x => exact ⟨_, rfl, h.leaves x.dt (restartFrame_levelBus _) (restartFrame_outputsKept _)⟩
  | shortFrameTimeout x => exact ⟨_, rfl, h.leaves x.dt (timeOutFrame_levelBus _ _) (timeOutFrame_outputsKept _ _)⟩
  | staleDeadline dt g => exact ⟨_, rfl, h.leaves dt (reachStale_levelBus g) (reachStale_outputsKept g)⟩
  | lostDeadline dt g => exact ⟨_, rfl, h.leaves dt (reachLost_levelBus g) (reachLost_outputsKept g)⟩
  | flowLineEdge dt c high => exact ⟨_, rfl, h.edge dt (edgeFlow_levelBus c high) (edgeFlow_outputsKept c high)⟩
  | flowPulseQualify dt c => exact ⟨_, rfl, h.leaves dt (qualifyFlow_levelBus c) (qualifyFlow_outputsKept c)⟩
  | flowFilterRearm dt c => exact ⟨_, rfl, h.leaves dt (rearmFlow_levelBus c) (rearmFlow_outputsKept c)⟩
  | gateEnd dt => exact ⟨_, rfl, h.leaves dt endGate_levelBus endGate_outputsKept⟩
  | flowGateResult dt c => exact ⟨_, rfl, h.runs dt (flowResultEvent_keepsBus c)⟩
  | chainEvaluation dt c => exact ⟨_, rfl, h.runs dt (evaluationEvent_keepsBus c)⟩
  | chainFreshnessChange dt c => exact ⟨_, rfl, h.runs dt (freshnessEvent_keepsBus c)⟩
  | siteEvaluation dt => exact ⟨_, rfl, h.runs dt siteEvaluationEvent_keepsBus⟩
  | siteStale dt => exact ⟨_, rfl, h.runs dt siteStaleEvent_keepsBus⟩
  | siteLost dt => exact ⟨_, rfl, h.runs dt siteLostEvent_keepsBus⟩
  | siteCeilingChange dt c => exact ⟨_, rfl, h.runs dt (ceilingEvent_keepsBus c)⟩
  | siteTripEvent dt c => exact ⟨_, rfl, h.runs dt (siteTripTaken_keepsBus c)⟩
  | siteFreshnessLoss dt c => exact ⟨_, rfl, h.runs dt (siteLossTaken_keepsBus c)⟩
  | interlockLineEdge dt high =>
    exact ⟨_, rfl, h.edge dt (edgeInterlock_levelBus high) (edgeInterlock_outputsKept high)⟩
  | interlockOpening dt => exact ⟨_, rfl, h.runs dt openInterlock_keepsBus⟩
  | interlockClosing dt => exact ⟨_, rfl, h.runs dt closeInterlock_keepsBus⟩
  | chainInterlockOpening dt c => exact ⟨_, rfl, h.runs dt (openingEvent_keepsBus c)⟩
  | chainInterlockClosing dt c => exact ⟨_, rfl, h.leaves dt (closingEvent_levelBus c) (closingEvent_outputsKept c)⟩
  | fastLineEdge dt line high =>
    exact ⟨_, rfl, h.edge dt (edgeFast_levelBus line high) (edgeFast_outputsKept line high)⟩
  | fastLineQualify dt line => exact ⟨_, rfl, h.leaves dt (qualifyFast_levelBus line) (qualifyFast_outputsKept line)⟩
  | fastFilterRearm dt line => exact ⟨_, rfl, h.leaves dt (rearmFast_levelBus line) (rearmFast_outputsKept line)⟩
  | qualifiedArcPulse dt c => exact ⟨_, rfl, h.runs dt (arcEvent_keepsBus c)⟩
  | qualifiedSurge dt c => exact ⟨_, rfl, h.runs dt (surgeEvent_keepsBus c)⟩
  | windowExpiry dt c => exact ⟨_, rfl, h.runs dt (expireWindow_keepsBus c)⟩
  | dwellEnd dt c => exact ⟨_, rfl, h.runs dt (endDwell_keepsBus c)⟩
  | tripListEntryExpiry dt c => exact ⟨_, rfl, h.runs dt (expireTrips_keepsBus c)⟩
  | runOnExpiry dt c => exact ⟨_, rfl, h.runs dt (expireRunOn_keepsBus c)⟩
  | chainFrameTick dt c => exact ⟨_, rfl, h.runs dt (tickEvent_keepsBus c)⟩
  | captureRecordJoin dt => exact ⟨_, rfl, h.runs dt joinEvent_keepsBus⟩
  | markerLineEdge dt high => exact ⟨_, rfl, h.edge dt (edgeMarker_levelBus high) (edgeMarker_outputsKept high)⟩
  | markerFilterRearm dt => exact ⟨_, rfl, h.leaves dt rearmMarker_levelBus rearmMarker_outputsKept⟩
  | marker dt => exact ⟨_, rfl, h.leaves dt markerEvent_levelBus markerEvent_outputsKept⟩
  | fallbackTick dt => exact ⟨_, rfl, h.leaves dt fallbackEvent_levelBus fallbackEvent_outputsKept⟩
  | previousMarkerDrop dt => exact ⟨_, rfl, h.leaves dt dropPrevious_levelBus dropPrevious_outputsKept⟩
  | windowClose dt => exact ⟨_, rfl, h.leaves dt windowEvent_levelBus windowEvent_outputsKept⟩
  | levelTransferComplete dt => exact ⟨_, rfl, h.runs dt transferEvent_keepsBus⟩
  | chainProfileActivation dt c => exact ⟨_, rfl, h.runs dt (chainActivationEvent_keepsBus c)⟩
  | siteProfileActivation dt =>
    exact ⟨_, rfl, h.leaves dt siteActivationEvent_levelBus siteActivationEvent_outputsKept⟩
  | trackerProfileActivation dt =>
    exact ⟨_, rfl, h.leaves dt trackerActivationEvent_levelBus trackerActivationEvent_outputsKept⟩
  | fastMuteProfileActivation dt =>
    exact ⟨_, rfl, h.leaves dt fastMuteActivationEvent_levelBus fastMuteActivationEvent_outputsKept⟩
  | loadTimeout dt => exact ⟨_, rfl, h.leaves dt loadTimerEvent_levelBus loadTimerEvent_outputsKept⟩
  | lockoutRecordWriteComplete dt => exact ⟨_, rfl, h.runs dt lockoutWriteEvent_keepsBus⟩
  | directoryWriteComplete dt => exact ⟨_, rfl, h.runs dt directoryWriteEvent_keepsBus⟩
  | slotWriteComplete dt => exact ⟨_, rfl, h.runs dt slotWriteEvent_keepsBus⟩
  | framingError x => exact ⟨_, rfl, h.leaves x.dt (framingErrorEvent_levelBus _) (framingErrorEvent_outputsKept _)⟩
  | controlFrameDiscard x => exact ⟨_, rfl, h.leaves x.dt (discardFrame_levelBus _) (discardFrame_outputsKept _)⟩
  | controlFrameGapTimeout x => exact ⟨_, rfl, h.leaves x.dt (gapEvent_levelBus _ _) (gapEvent_outputsKept _ _)⟩
  | unknownKind dt head body crc => exact ⟨_, rfl, h.runs dt (takeUnknown_keepsBus _)⟩
  | overlapFrame dt head body crc => exact ⟨_, rfl, h.runs dt (takeOverlap_keepsBus _)⟩
  | identify dt inner crc => exact ⟨_, rfl, h.takes dt (servesBus_reading fun _ _ => rfl) _ _ _⟩
  | readChain dt inner crc =>
    exact ⟨_, rfl, h.takes dt (serveChain_servesBus fun _ => servesBus_reading fun _ _ => rfl) _ _ _⟩
  | readSite dt inner crc => exact ⟨_, rfl, h.takes dt (servesBus_reading fun _ _ => rfl) _ _ _⟩
  | readTiming dt inner crc => exact ⟨_, rfl, h.takes dt (servesBus_reading fun _ _ => rfl) _ _ _⟩
  | readTrips dt inner crc =>
    exact ⟨_, rfl, h.takes dt (serveChain_servesBus fun _ => servesBus_reading fun _ _ => rfl) _ _ _⟩
  | readCapture dt inner crc => exact ⟨_, rfl, h.takes dt (servesBus_reading fun _ _ => rfl) _ _ _⟩
  | readStore dt inner crc => exact ⟨_, rfl, h.takes dt (servesBus_reading fun _ _ => rfl) _ _ _⟩
  | setLevel dt inner crc => exact ⟨_, rfl, h.takes dt (serveChain_servesBus serveSetLevel_servesBus) _ _ _⟩
  | chainOn dt inner crc => exact ⟨_, rfl, h.takes dt (serveChain_servesBus serveChainOn_servesBus) _ _ _⟩
  | chainOff dt inner crc => exact ⟨_, rfl, h.takes dt (serveChain_servesBus serveChainOff_servesBus) _ _ _⟩
  | clearLockout dt inner crc => exact ⟨_, rfl, h.takes dt (serveChain_servesBus serveClearLockout_servesBus) _ _ _⟩
  | releaseCapture dt inner crc => exact ⟨_, rfl, h.takes dt serveReleaseCapture_servesBus _ _ _⟩
  | loadBegin dt inner crc => exact ⟨_, rfl, h.takes dt serveLoadBegin_servesBus _ _ _⟩
  | loadSegment dt inner crc => exact ⟨_, rfl, h.takes dt serveLoadSegment_servesBus _ _ _⟩
  | loadEnd dt inner crc => exact ⟨_, rfl, h.takes dt serveLoadEnd_servesBus _ _ _⟩
  | loadCancel dt inner crc => exact ⟨_, rfl, h.takes dt serveLoadCancel_servesBus _ _ _⟩
  | activate dt inner crc => exact ⟨_, rfl, h.takes dt serveActivate_servesBus _ _ _⟩
  | setNotices dt inner crc => exact ⟨_, rfl, h.takes dt serveSetNotices_servesBus _ _ _⟩
  | reset dt inner crc => exact ⟨_, rfl, h.takes dt (servesBus_reading fun _ _ => rfl) _ _ _⟩
  | transmitComplete dt => exact ⟨_, rfl, h.runs dt transmitEvent_keepsBus⟩
  | syncWordMatch x => exact ⟨_, rfl, h.leaves x.dt (matchSync_levelBus _) (matchSync_outputsKept _)⟩
  | controlStartByte x => exact ⟨_, rfl, h.leaves x.dt (startFrame_levelBus _) (startFrame_outputsKept _)⟩
  | supplyBelowThreshold dt => exact ⟨_, rfl, enterReset_busSafe _ _⟩
  | rstNRise dt => exact ⟨_, rfl, riseRstN_keepsBus _ (h.later dt)⟩

/-- Settles O57: a committed record hands its A over, a transfer's end moves no settled level, a reset sets the bus and
every A to 0, and every other command leaves both. That the part is safe is not needed. -/
theorem stepKeepsBusSafe : Obligations.StepKeepsBusSafe := by
  intro s t h _ ht
  unfold step at ht
  split at ht
  · cases ht
    exact h
  · next c rest _ =>
    have hp : BusSafe (s.withPending rest) := h.kept rfl fun _ => rfl
    obtain ⟨u, hu, hs⟩ := exec_keepsBus hp c
    cases hu.symm.trans ht
    exact hs

end Sys2Proof.Machine
end

section
/-! PROOFS. RST_N rising, the loss of supply (R145, R161, R163), and what the end of start-up makes of the Profile Store,
the alarm reasons and every block but the chains (R44, R86, R104, R137, R144, R150, R160, R162, R173). -/

namespace Sys2Proof

@[simp] theorem Oct.get_map {α β : Type} (f : α → β) (o : Oct α) (k : Fin 8) : (o.map f).get k = f (o.get k) := by
  unfold Oct.get Oct.map
  split <;> exact Quad.get_map f _ _

end Sys2Proof

namespace Sys2Proof.Machine

/-! ## RST_N and the supply -/

/-- Settles O4: both enter a reset, to start-up and to the part without supply. -/
theorem startUpBeginsWhenRstNRises : Obligations.StartUpBeginsWhenRstNRises := by
  refine ⟨fun dt s hp => ?rise, fun dt s => ?supply⟩
  case rise =>
    have he : exec (.rstNRise dt) s
        = .next (enterReset (.startUp (s.time + dt)) { elapse dt s with pins := { s.pins with rstN := true } }) := by
      show Host.Outcome.next (riseRstN (elapse dt s)) = _
      exact congrArg Host.Outcome.next (if_pos hp)
    refine ⟨_, he, (enterReset_frame (Or.inr (Or.inr rfl))).of_before rfl rfl rfl, rfl, rfl, rfl, fun c => ?_, rfl, rfl⟩
    rw [enterReset_recordOf]
    rfl
  case supply =>
    exact ⟨_, rfl, (enterReset_frame (s := elapse dt s) (Or.inr (Or.inl rfl))).of_before rfl rfl rfl, rfl, rfl⟩

/-! ## The profile start-up chooses (R162) -/

/-- The image of a VALID slot is in the array. -/
theorem slotStateOf_valid {cell : NvCell} (h : slotStateOf cell = .valid) : ∃ img, cell = .bytes img := by
  cases cell with
  | bytes img => exact ⟨img, rfl⟩
  | torn => cases h

section Chosen

variable {a : NvArray} {k : Fin 3}

theorem chosenDesignation_valid (hd : directoryContent a.directory = some (.slot k))
    (hv : slotStateOf (a.slots.get k) = .valid) : chosenDesignation a = .slot k := by
  simp only [chosenDesignation, hd, if_pos hv]

theorem chosenDesignation_invalid (hd : directoryContent a.directory = some (.slot k))
    (hv : slotStateOf (a.slots.get k) ≠ .valid) : chosenDesignation a = .builtIn := by
  simp only [chosenDesignation, hd, if_neg hv]

theorem chosenDesignation_other (hd : ∀ k, directoryContent a.directory ≠ some (.slot k)) :
    chosenDesignation a = .builtIn := by
  unfold chosenDesignation
  split
  · next h => exact absurd h (hd _)
  · rfl
  · rfl

theorem designatedProfile_slot {img : List Byte} (h : a.slots.get k = .bytes img) :
    designatedProfile a (.slot k) = profileOfImage img := by
  simp only [designatedProfile, h]

end Chosen

/-- What the directory makes of the active profile and its source: the slot it names if that is VALID, else the default. -/
theorem chosenProfile_cases (a : NvArray) :
    match directoryContent a.directory with
    | some (.slot k) =>
      if slotStateOf (a.slots.get k) = .valid then
        chosenDesignation a = .slot k
          ∧ ∃ img, a.slots.get k = .bytes img ∧ designatedProfile a (chosenDesignation a) = profileOfImage img
      else chosenDesignation a = .builtIn ∧ designatedProfile a (chosenDesignation a) = builtInProfile
    | _ => chosenDesignation a = .builtIn ∧ designatedProfile a (chosenDesignation a) = builtInProfile := by
  split
  · next k hd =>
    split
    · next hv =>
      obtain ⟨img, himg⟩ := slotStateOf_valid hv
      have hc := chosenDesignation_valid hd hv
      exact ⟨hc, img, himg, by rw [hc]; exact designatedProfile_slot himg⟩
    · next hv =>
      have hc := chosenDesignation_invalid hd hv
      exact ⟨hc, by rw [hc]; rfl⟩
  · next hd =>
    have hc : chosenDesignation a = .builtIn := chosenDesignation_other hd
    exact ⟨hc, by rw [hc]; rfl⟩

/-! ## The blocks at their start-up values -/

section StartUpEnd

variable {s : State}

/-- The part as start-up's steps 1 to 5 leave it, but for what placing the chains, the lines and the link change. -/
theorem startUp_frame :
    finish (placeChains (startBlocks s)) = { startBlocks s with
      chains := (finish (placeChains (startBlocks s))).chains
      alarms := (placed (startBlocks s)).alarms
      nv := (finish (placeChains (startBlocks s))).nv
      lines := (finish (placeChains (startBlocks s))).lines
      link := (finish (placeChains (startBlocks s))).link } := by
  rw [finish_frame, placeChains_frame]

/-- With nothing waiting to be sent, the line stays idle. -/
theorem servedLink_quiet {l : ControlLink} {t : State} (ho : l.overlap = none) (hr : l.reply = none)
    (hn : l.noticePending = noFlags) : servedLink l t = l := by
  unfold servedLink
  simp only [ho, hr, hn]
  split <;> rfl

theorem startUp_link : (finish (placeChains (startBlocks s))).link = startLink s.link.bsel1 s.link.bsel0 := by
  have hf := placeChains_frame (startBlocks s)
  have hl : (placeChains (startBlocks s)).link = startLink s.link.bsel1 s.link.bsel0 := by rw [hf]; rfl
  have hp : (placeChains (startBlocks s)).phase = .running := by rw [hf]; rfl
  rw [finish_link _ hp, hl]
  exact servedLink_quiet rfl rfl rfl

/-- A chain that start-up has placed stands in DISABLED, LOCKOUT or QUALIFY, with no run-on and in band A (R25). -/
theorem startUp_mode (c : ChainNo) :
    (recordOf (finish (placeChains (startBlocks s))) c).band = .a
      ∧ ((recordOf (finish (placeChains (startBlocks s))) c).mode = .disabled none
        ∨ (recordOf (finish (placeChains (startBlocks s))) c).mode = .lockout
        ∨ ∃ set, (recordOf (finish (placeChains (startBlocks s))) c).mode = .qualify set) := by
  have hm : (recordOf (startBlocks s) c).mode = .disabled none := by rw [startBlocks_recordOf]; rfl
  have hb : (recordOf (startBlocks s) c).band = .a := by rw [startBlocks_recordOf]; rfl
  obtain ⟨mode, latch, hplace, hcase⟩ := placeChain_form hm
  rw [startUp_recordOf, hplace]
  refine ⟨hb, ?_⟩
  split_ifs at hcase
  · exact Or.inr (Or.inl hcase.1)
  · exact Or.inl hcase.1
  · exact Or.inr (Or.inl hcase.1)
  · exact Or.inr (Or.inr ⟨_, hcase.2.1⟩)
  · exact Or.inl hcase.1

/-- A placed chain asserts its inhibit line, and outside DISABLED its cooling-demand line (R145, R147). -/
theorem placed_lines {r : ChainRecord} (hb : r.band = .a)
    (hm : r.mode = .disabled none ∨ r.mode = .lockout ∨ ∃ set, r.mode = .qualify set) :
    inhibitFor r = true ∧ coolingFor r = decide (modeState r.mode ≠ .disabled) := by
  obtain hm | hm | ⟨set, hm⟩ := hm
  · simp [inhibitFor, coolingFor, runState, modeState, hm, hb]
  · simp [inhibitFor, coolingFor, runState, modeState, hm]
  · simp [inhibitFor, coolingFor, runState, modeState, hm]

theorem anyReason_of_siteLost {a : AlarmReasons} (h : a.siteLost = true) : anyReason a = true := by
  simp [anyReason, h]

theorem linesOf_running {t : State} (h : t.phase = .running) :
    linesOf t = { inhibit := t.chains.map fun x => inhibitFor x.record
                  cooling := t.chains.map fun x => coolingFor x.record
                  alarm := anyReason t.alarms } := by
  unfold linesOf
  rw [h]
  rfl

/-- The lines as start-up leaves them: every inhibit asserted, the cooling demand of the chains outside DISABLED, and the
alarm line, SITE_LOST holding (R145, R147, R150). -/
theorem startUp_lines :
    (∀ c, (finish (placeChains (startBlocks s))).lines.inhibit.get c = true)
      ∧ (∀ c, (finish (placeChains (startBlocks s))).lines.cooling.get c
        = decide (modeState (recordOf (finish (placeChains (startBlocks s))) c).mode ≠ .disabled))
      ∧ (finish (placeChains (startBlocks s))).lines.alarm = true := by
  have hplaced (c : ChainNo) := placed_lines (startUp_mode (s := s) c).1 (startUp_mode (s := s) c).2
  have hrun : (finish (placeChains (startBlocks s))).phase = .running := by rw [startUp_frame]; rfl
  have hlost : (finish (placeChains (startBlocks s))).alarms.siteLost = true := by rw [startUp_frame]; rfl
  rw [finish_lines, linesOf_running hrun]
  exact ⟨fun c => (Quad.get_map _ _ c).trans (hplaced c).1, fun c => (Quad.get_map _ _ c).trans (hplaced c).2,
    anyReason_of_siteLost hlost⟩

end StartUpEnd

/-- Settles O6: the profile the directory chooses, and each block's start-up values, which placing the chains leaves. -/
theorem startUpSetsStoreAndBlocks : Obligations.StartUpSetsStoreAndBlocks := by
  intro dt began s hp ht
  have hlink := startUp_link (s := elapse dt s)
  obtain ⟨hinhibit, hcooling, halarm⟩ := startUp_lines (s := elapse dt s)
  refine ⟨_, exec_startUpEnd hp ht, ?_⟩
  have hf := startUp_frame (s := elapse dt s)
  generalize finish (placeChains (startBlocks (elapse dt s))) = t at hlink hinhibit hcooling halarm hf
  have hstore : t.store = (startBlocks (elapse dt s)).store := by rw [hf]
  have halarms : t.alarms = (placed (startBlocks (elapse dt s))).alarms := by rw [hf]
  have hintake : t.intake = startIntake t.time s.pins.flows := by rw [hf]; rfl
  have hsite : t.site = startSite t.store.active s.pins.ilk := by rw [hf]; rfl
  have hfast : t.fastMute = startFastMute t.time t.store.active s.pins.arcs s.pins.surges := by rw [hf]; rfl
  have htracker : t.tracker = startTracker t.time t.store.active s.pins.fmk := by rw [hf]; rfl
  have hclock : trackerTime t = 0 := by
    unfold trackerTime trackerUnit
    rw [htracker]
    simp [startTracker]
  have hbus : t.levelBus = startLevelBus := by rw [hf]; rfl
  have hkept : t.capture = s.capture ∧ t.array = s.array ∧ t.pins = s.pins := by rw [hf]; exact ⟨rfl, rfl, rfl⟩
  obtain ⟨hcapture, harray, hpins⟩ := hkept
  rw [halarms, hintake, hsite, hfast, hclock, htracker, hstore]
  refine ⟨chosenProfile_cases s.array, rfl, rfl, rfl, rfl, fun k => Trio.get_map _ _ k, rfl, rfl, rfl, rfl,
    fun c => ⟨Quad.get_fill _ c, Quad.get_map _ _ c⟩, rfl, rfl, rfl, rfl, rfl, rfl, fun k => Oct.get_map _ _ k,
    fun c => Quad.get_map _ _ c, rfl, rfl, rfl, rfl, rfl, rfl, rfl, rfl, rfl, rfl, rfl, rfl, rfl, rfl, hbus, hlink,
    hcapture, harray, hpins, hinhibit, hcooling, halarm⟩

end Sys2Proof.Machine
end

section
/-! PROOFS. ACTIVATE (R149, R159, R160, R161): the designations it takes and those it refuses, and what an accepted one
changes. -/

namespace Sys2Proof.Machine

/-! ## Designations (R159) -/

theorem slotOf_eq {b : Byte} {k : Fin 3} (h : b.toNat = k.val) : slotOf b = some k := by
  simp [slotOf, h]

theorem designationOf_slot {b : Byte} {k : Fin 3} (h : b.toNat = k.val) : designationOf b = some (.slot k) := by
  have hb : b ≠ 0x0F#8 := by
    rintro rfl
    have hk : (15 : Nat) = k.val := h
    omega
  rw [designationOf, if_neg hb, slotOf_eq h]
  rfl

theorem designationOf_none {b : Byte} (h : 3 ≤ b.toNat) (hb : b ≠ 0x0F#8) : designationOf b = none := by
  have hs : slotOf b = none := dif_neg (Nat.not_lt.mpr h)
  rw [designationOf, if_neg hb, hs]
  rfl

theorem designationBytes_slot {b : Byte} {k : Fin 3} (h : b.toNat = k.val) : designationBytes (.slot k) = [b] := by
  simp [designationBytes, designationCode, bytes8, ← h]

/-! ## An accepted ACTIVATE -/

/-- The alarm reasons with DEFAULT_PROFILE as designation `d` makes it. -/
def defaultMoved (d : Designation) (a : AlarmReasons) : AlarmReasons :=
  { a with defaultProfile := decide (d = .builtIn) }

/-- The announcement and the new active copy, with DEFAULT_PROFILE. -/
theorem makeActive_frame (d : Designation) (p : Profile) (s : State) :
    makeActive d p s = { announce p s with
      store := { s.store with active := p, source := d }
      alarms := defaultMoved d s.alarms
      link := (makeActive d p s).link } := by
  unfold makeActive setDefaultReason
  rw [setAlarms_frame]
  rfl

theorem makeActive_link (d : Designation) (p : Profile) (s : State) :
    (makeActive d p s).link = { s.link with
      noticePending := raisedFlags none (decide (defaultMoved d s.alarms ≠ s.alarms)) false s.time s.link } :=
  setAlarms_link _ _

/-- The persist flag sets the directory content and requests the directory write; else nothing changes (R160). -/
theorem persistDirectory_frame (persist : Bool) (d : Designation) (s : State) :
    persistDirectory persist d s = { s with
      store := { s.store with directory := if persist then d else s.store.directory }
      nv := if persist then startedNv s.time (latchesOf s) d { s.nv with directoryPending := true } else s.nv } := by
  cases persist with
  | false => rfl
  | true =>
    show startWrite _ = _
    rw [startWrite_frame, startWrite_nv]
    rfl

/-- The part after an accepted ACTIVATE, but for its lines and its Control Link. -/
def activated (d : Designation) (p : Profile) (persist : Byte) (s : State) : State :=
  { announce p s with
    store := { s.store with active := p, source := d, directory := if persist = 0 then s.store.directory else d }
    alarms := defaultMoved d s.alarms
    nv := if persist = 0 then s.nv else startedNv s.time (latchesOf s) d { s.nv with directoryPending := true } }

theorem acceptActivate_frame (d : Designation) (p : Profile) (persist : Byte) (s : State) :
    (acceptActivate d p (persist != 0) s).1 = { activated d p persist s with link := (makeActive d p s).link } := by
  show persistDirectory (persist != 0) d (makeActive d p s) = _
  have hl : latchesOf (makeActive d p s) = latchesOf s := by
    rw [makeActive_frame]
    rfl
  rw [persistDirectory_frame, hl, makeActive_frame]
  unfold activated
  by_cases hz : persist = 0
  · rw [if_pos hz, if_pos hz, hz]
    rfl
  · have ht : (persist != 0) = true := bne_iff_ne.mpr hz
    rw [if_neg hz, if_neg hz, ht]
    rfl

section Accepted

variable {dt : Nat} {tag b persist : Byte} {d : Designation} {p : Profile} {s : State}

theorem exec_activate (h : CanTake s) :
    exec (requestOf .activate dt ⟨0x24, tag, [b, persist]⟩) s
      = .next (finish (produceReply 0x24 tag
          (serveActivate [b, persist] (requestState dt 0x24 tag s)).2
          (serveActivate [b, persist] (requestState dt 0x24 tag s)).1)) :=
  congrArg Host.Outcome.next (takeRequest_taken h (by simp) rfl)

theorem serveActivate_builtIn :
    serveActivate [0x0F, persist] s = acceptActivate .builtIn builtInProfile (persist != 0) s := rfl

theorem serveActivate_slot {k : Fin 3} {img : List Byte} (hb : b.toNat = k.val) (hs : s.store.slots.get k = .valid)
    (hc : s.array.slots.get k = .bytes img) :
    serveActivate [b, persist] s = acceptActivate (.slot k) (profileOfImage img) (persist != 0) s := by
  have hd : designationOf (byteAt [b, persist] 0) = some (.slot k) := designationOf_slot hb
  simp only [serveActivate, hd, hs, hc, slotProfile]
  rfl

theorem serveActivate_invalid {k : Fin 3} {f : Finding} (hb : b.toNat = k.val)
    (hs : s.store.slots.get k = .invalid f) : serveActivate [b, persist] s = (s, .refuse .checkFailed []) := by
  have hd : designationOf (byteAt [b, persist] 0) = some (.slot k) := designationOf_slot hb
  simp only [serveActivate, hd, hs]

theorem serveActivate_writing {k : Fin 3} (hb : b.toNat = k.val) (hs : s.store.slots.get k = .writing) :
    serveActivate [b, persist] s = (s, .refuse .busy []) := by
  have hd : designationOf (byteAt [b, persist] 0) = some (.slot k) := designationOf_slot hb
  simp only [serveActivate, hd, hs]

theorem serveActivate_unnamed (hb : 3 ≤ b.toNat) (hne : b ≠ 0x0F#8) :
    serveActivate [b, persist] s = (s, .refuse .designation [b]) := by
  have hd : designationOf (byteAt [b, persist] 0) = none := designationOf_none hb hne
  simp only [serveActivate, hd]
  rfl

/-- A designation that ACTIVATE accepts is served with its profile, and its byte is the one of the request. -/
theorem serveActivate_accepted
    (h : d = .builtIn ∧ b = 0x0F ∧ p = builtInProfile
      ∨ ∃ k img, d = .slot k ∧ b.toNat = k.val ∧ s.store.slots.get k = .valid
          ∧ s.array.slots.get k = .bytes img ∧ p = profileOfImage img) :
    serveActivate [b, persist] s = acceptActivate d p (persist != 0) s ∧ designationBytes d = [b] := by
  obtain ⟨rfl, rfl, rfl⟩ | ⟨k, img, rfl, hb, hs, hc, rfl⟩ := h
  · exact ⟨serveActivate_builtIn, rfl⟩
  · exact ⟨serveActivate_slot hb hs hc, designationBytes_slot hb⟩

/-- The acceptance's body: the designation, the profile's name and revision, the persist flag. -/
theorem acceptActivate_answer (hb : designationBytes d = [b]) (s : State) :
    (acceptActivate d p (persist != 0) s).2
      = .accept (b :: (p.name ++ bytes16 p.revision ++ [if persist = 0 then 0x00 else 0x01])) := by
  have hf : bytesFlag (persist != 0) = [if persist = 0 then 0x00 else 0x01] := by
    by_cases hz : persist = 0 <;> simp [bytesFlag, hz]
  show Answer.accept (namedProfile d p ++ bytesFlag (persist != 0)) = _
  rw [namedProfile, hb, hf]
  rfl

/-- An accepted ACTIVATE, finished: `u` is the part with its reply produced. -/
theorem finish_activated {u : State} (hu : u = { activated d p persist (elapse dt s) with link := u.link }) :
    (finish u).store = { s.store with
        active := p, source := d, directory := if persist = 0 then s.store.directory else d }
      ∧ (finish u).nv = (if persist = 0 then s.nv
          else startedNv (s.time + dt) (latchesOf (finish u)) d { s.nv with directoryPending := true })
      ∧ (finish u).alarms = defaultMoved d s.alarms
      ∧ InboxesOnly (fun _ x => { x with activations := x.activations ++ [p] }) s (finish u)
      ∧ (finish u).site = { s.site with activations := s.site.activations ++ [p] }
      ∧ (finish u).fastMute = { s.fastMute with activations := s.fastMute.activations ++ [p] }
      ∧ (finish u).tracker = { s.tracker with activations := s.tracker.activations ++ [p] }
      ∧ finish u = { s with
          time := s.time + dt, store := (finish u).store, nv := (finish u).nv, alarms := (finish u).alarms
          chains := (finish u).chains, site := (finish u).site, fastMute := (finish u).fastMute
          tracker := (finish u).tracker, lines := (finish u).lines, link := (finish u).link } := by
  have hlatches : latchesOf (finish u) = latchesOf s := by
    rw [finish_latches, hu]
    rfl
  refine ⟨?_, ?_, ?_, fun c => ?_, ?_, ?_, ?_, ?_⟩
  · rw [finish_store, hu]
    rfl
  · rw [finish_nv, hlatches, hu]
    rfl
  · rw [finish_alarms, hu]
    rfl
  · rw [finish_chains, hu]
    exact Quad.get_map _ s.chains c
  · rw [finish_site, hu]
    rfl
  · rw [finish_fastMute, hu]
    rfl
  · rw [finish_tracker, hu]
    rfl
  · rw [finish_frame]
    generalize linesOf u = lines
    rw [hu]
    rfl

end Accepted

/-- Settles O47: the two designations that are accepted, and the three refusals. -/
theorem activateAnnouncesProfile : Obligations.ActivateAnnouncesProfile := by
  intro dt tag b persist s hs
  refine ⟨_, exec_activate hs, fun d p h => ?accepted, fun k f hb hk => ?invalid, fun k hb hk => ?writing,
    fun hb hne => ?unnamed⟩
  case accepted =>
    obtain ⟨hserve, hbyte⟩ := serveActivate_accepted (persist := persist) (s := requestState dt 0x24 tag s) h
    rw [hserve, acceptActivate_answer hbyte, acceptActivate_frame]
    obtain ⟨hstore, hnv, halarms, hinboxes, hsite, hfast, htracker, hrest⟩ := finish_activated (dt := dt) (s := s)
      (u := produceReply 0x24 tag
        (.accept (b :: (p.name ++ bytes16 p.revision ++ [if persist = 0 then 0x00 else 0x01])))
        { activated d p persist (requestState dt 0x24 tag s) with
          link := (makeActive d p (requestState dt 0x24 tag s)).link }) rfl
    refine ⟨hstore, hnv, halarms, hinboxes, hsite, hfast, htracker, finish_lines _,
      finish_requestTaken hs.running ?_, hrest⟩
    rw [halarms, finish_time]
    simp only [produceReply, makeActive_link]
    rfl
  case invalid =>
    rw [serveActivate_invalid (s := requestState dt 0x24 tag s) hb hk]
    exact answer_unchanged hs.running fun _ => rfl
  case writing =>
    rw [serveActivate_writing (s := requestState dt 0x24 tag s) hb hk]
    exact answer_unchanged hs.running fun _ => rfl
  case unnamed =>
    rw [serveActivate_unnamed (s := requestState dt 0x24 tag s) hb hne]
    exact answer_unchanged hs.running fun _ => rfl

end Sys2Proof.Machine
end

section
/-! PROOFS. What stands on the wires, bit by bit: level words on the level bus (R141, R144), sample words (R26), characters
and frames of the control link (R164, R165). -/

namespace Sys2Proof.Machine

/-! ## Blocks of one length -/

section Blocks

variable {α β : Type} {f : α → List β} {n : Nat}

/-- Where each element gives a block of `n`, the place `i` lies in block `i / n`, at its place `i % n`. -/
theorem flatMap_getElem? (hn : 0 < n) (hf : ∀ a, (f a).length = n) (l : List α) (i : Nat) :
    (l.flatMap f)[i]? = l[i / n]?.bind fun a => (f a)[i % n]? := by
  induction l generalizing i with
  | nil => rfl
  | cons a l ih =>
    rw [List.flatMap_cons]
    by_cases hi : i < n
    · rw [List.getElem?_append_left (by rw [hf]; exact hi), Nat.div_eq_of_lt hi, Nat.mod_eq_of_lt hi]
      rfl
    · obtain ⟨j, rfl⟩ := Nat.exists_eq_add_of_le (Nat.not_lt.mp hi)
      rw [List.getElem?_append_right (by rw [hf]; omega), hf, Nat.add_sub_cancel_left, ih, Nat.add_div_left j hn,
        Nat.add_mod_left, List.getElem?_cons_succ]

theorem flatMap_length (hf : ∀ a, (f a).length = n) (l : List α) : (l.flatMap f).length = n * l.length := by
  induction l with
  | nil => rfl
  | cons a l ih =>
    rw [List.flatMap_cons, List.length_append, hf, ih, List.length_cons]
    ring

theorem getElem?_byteAt {bs : List Byte} {i : Nat} (h : i < bs.length) : bs[i]? = some (byteAt bs i) := by
  rw [byteAt, List.getD_eq_getElem?_getD, List.getElem?_eq_getElem h]
  rfl

/-- The value at a place of the blocks of bytes, within them and past them. -/
theorem flatMap_getD {f : Byte → List β} (hn : 0 < n) (hf : ∀ b, (f b).length = n) (bs : List Byte) (i : Nat) (d : β) :
    (bs.flatMap f).getD i d = if i < n * bs.length then (f (byteAt bs (i / n))).getD (i % n) d else d := by
  rw [List.getD_eq_getElem?_getD]
  split
  · next hi =>
    rw [flatMap_getElem? hn hf, getElem?_byteAt (Nat.div_lt_of_lt_mul hi), Option.bind_some,
      List.getD_eq_getElem?_getD]
  · next hi =>
    rw [List.getElem?_eq_none (by rw [flatMap_length hf]; omega)]
    rfl

end Blocks

/-! ## The level bus (R141, R144) -/

/-- The three bytes of a level word that its fourth checks (Table 8-3). -/
theorem levelWord_bytes (c : ChainNo) {v : Nat} (hv : v < 65536) :
    ∃ b1 b2 b3 : Byte, levelWord c v = [b1, b2, b3, ~~~(b1 ^^^ b2 ^^^ b3)]
      ∧ b1.toNat = 0xA0 + c.val ∧ 256 * b2.toNat + b3.toNat = v := by
  refine ⟨_, _, _, rfl, ?_, ?_⟩
  · rw [BitVec.toNat_ofNat]
    omega
  · rw [BitVec.toNat_ofNat, BitVec.toNat_ofNat]
    omega

theorem levelWord_length (c : ChainNo) (v : Nat) : (levelWord c v).length = 4 := rfl

theorem bitsOfByte_length (b : Byte) : (bitsOfByte b).length = 8 := by simp [bitsOfByte]

theorem bitsOfByte_getElem? (b : Byte) {k : Nat} (h : k < 8) : (bitsOfByte b)[k]? = some (b.getMsbD k) := by
  simp [bitsOfByte, h]

/-- The two halves of a bit period. -/
theorem bitPeriod_getElem? (b : Bool) (k : Nat) : (bitPeriod b)[k % 2]? = some ⟨decide (k % 2 = 1), b⟩ := by
  obtain h | h := Nat.mod_two_eq_zero_or_one k <;> rw [h] <;> rfl

/-- A transfer of four bytes, half a bit period at a time: 64 halves of its bits, then idle (R141). -/
theorem transferLevels_getD {word : List Byte} (hw : word.length = 4) (half : Nat) :
    (transferLevels word).getD half idleBus
      = if half < 64 then ⟨decide (half % 2 = 1), (byteAt word (half / 16)).getMsbD (half / 2 % 8)⟩
        else ⟨true, false⟩ := by
  have hbits : (word.flatMap bitsOfByte).length = 32 := by rw [flatMap_length bitsOfByte_length, hw]
  have hlevels : ((word.flatMap bitsOfByte).flatMap bitPeriod).length = 64 := by
    rw [flatMap_length (n := 2) (fun _ => rfl), hbits]
  unfold transferLevels
  rw [List.getD_eq_getElem?_getD]
  split
  · next h =>
    have hdiv : half / 2 / 8 = half / 16 := Nat.div_div_eq_div_mul half 2 8
    rw [List.getElem?_append_left (by omega), flatMap_getElem? (n := 2) (by decide) (fun _ => rfl),
      flatMap_getElem? (n := 8) (by decide) bitsOfByte_length, hdiv, getElem?_byteAt (by omega), Option.bind_some,
      bitsOfByte_getElem? _ (Nat.mod_lt _ (by decide)), Option.bind_some, bitPeriod_getElem?]
    rfl
  · next h =>
    rw [List.getElem?_append_right (by omega), List.getElem?_replicate]
    split <;> rfl

section Lines

variable {s : State} {k : Fin 6}

/-- The lines while the word of a level stands on the bus, `since` µs after its transfer began. -/
theorem busLines_word {c : ChainNo} {v since : Nat} (h : busWord s = some (levelWord c v, since)) :
    busLines s k = if 6 * since + k.val < 64 then
        ⟨decide ((6 * since + k.val) % 2 = 1),
          (byteAt (levelWord c v) ((6 * since + k.val) / 16)).getMsbD ((6 * since + k.val) / 2 % 8)⟩
      else ⟨true, false⟩ := by
  unfold busLines
  rw [h]
  exact transferLevels_getD (levelWord_length c v) _

theorem busLines_none (h : busWord s = none) : busLines s k = ⟨true, false⟩ := by
  unfold busLines
  rw [h]
  rfl

theorem busWord_running (h : s.phase = .running ∨ s.phase = .resetDue) :
    busWord s = s.levelBus.inFlight.map fun t => (levelWord t.chain t.level, s.time - t.started) := by
  unfold busWord
  obtain h | h := h <;> rw [h]

theorem busWord_stopped (h : s.phase = .held ∨ s.phase = .unpowered) : busWord s = none := by
  unfold busWord
  obtain h | h := h <;> rw [h]

theorem busWord_startUp {began : Nat} (h : s.phase = .startUp began) :
    busWord s = if began + Config.zeroingDelay ≤ s.time then zeroingWord (s.time - (began + Config.zeroingDelay))
      else none := by
  unfold busWord
  rw [h]
  rfl

/-- The zeroing sends level 0 to each chain in turn, 12 µs a chain. -/
theorem zeroingWord_chain {c : ChainNo} {since : Nat} (h : c.val = since / 12) :
    zeroingWord since = some (levelWord c 0, since % 12) := by
  have hlt : since / transferMicros < 4 := h ▸ c.isLt
  have hc : (⟨since / transferMicros, hlt⟩ : ChainNo) = c := Fin.ext h.symm
  rw [zeroingWord, dif_pos hlt, hc]
  rfl

theorem zeroingWord_over {since : Nat} (h : 48 ≤ since) : zeroingWord since = none := by
  refine dif_neg ?_
  unfold transferMicros
  omega

end Lines

/-! ## Sample words, characters and frames (R26, R164, R165) -/

theorem bitsOfWord_getElem? (w : Word16) {k : Nat} (h : k < 16) : (bitsOfWord w)[k]? = some (w.getLsbD (15 - k)) := by
  simp [bitsOfWord, h, BitVec.getMsbD]

theorem characterBits_length (b : Byte) : (characterBits b).length = 10 := rfl

/-- CTXD carries a message's characters one bit time after another, then stands at the stop level. -/
theorem ctxdLevel_sending {s : State} {t : Transmission} (h : s.link.transmitting = some t) :
    ctxdLevel s = if (s.time - t.started) * lineRate s.link / 1000000 < 10 * (frameBytes t.message).length then
        (characterBits (byteAt (frameBytes t.message)
          ((s.time - t.started) * lineRate s.link / 1000000 / 10))).getD
            ((s.time - t.started) * lineRate s.link / 1000000 % 10) true
      else true := by
  unfold ctxdLevel
  rw [h]
  exact flatMap_getD (by decide) characterBits_length _ _ _

/-- A message's frame, byte by byte (Table 10-1). -/
theorem frameBytes_eq (m : Message) (h : m.body.length ≤ 248) :
    ∃ n c1 c2 : Byte, n.toNat = m.body.length + 2
      ∧ frameBytes m = 0xC3 :: n :: m.kind :: m.tag :: (m.body ++ [c1, c2])
      ∧ 256 * c1.toNat + c2.toNat = (crc16 (n :: m.kind :: m.tag :: m.body)).toNat := by
  refine ⟨BitVec.ofNat 8 (m.body.length + 2), _, _, ?_, rfl, value_of_bytes16 rfl⟩
  rw [BitVec.toNat_ofNat]
  omega

/-- Settles O51, wire by wire. -/
theorem wiresCarryTheirWords : Obligations.WiresCarryTheirWords := by
  refine ⟨fun c v hv => levelWord_bytes c hv, fun s k => ⟨fun t half hp hin hh => ?transfer,
    fun began start hp hstart => ⟨fun hlt => ?before, fun c half hle hc hh => ?zeroing, fun hle => ?after⟩,
    fun hp hin => ?free, fun hp => busLines_none (busWord_stopped hp)⟩,
    fun w => ⟨bitsOfWord_length w, fun k => bitsOfWord_getElem? w⟩, wordsOf_bits, fun b => rfl,
    fun s => ⟨fun h => ?idle, fun t n ht hn => ?sending⟩, fun l => ?rate, fun m hm => ?frame⟩
  case transfer =>
    subst hh
    exact busLines_word (by rw [busWord_running hp, hin]; rfl)
  case before =>
    subst hstart
    exact busLines_none (by rw [busWord_startUp hp, if_neg (Nat.not_le.mpr hlt)])
  case zeroing =>
    subst hstart hh
    exact busLines_word (by rw [busWord_startUp hp, if_pos hle, zeroingWord_chain hc])
  case after =>
    subst hstart
    exact busLines_none (by rw [busWord_startUp hp, if_pos (by omega), zeroingWord_over (by omega)])
  case free => exact busLines_none (by rw [busWord_running hp, hin]; rfl)
  case idle => simp only [ctxdLevel, h]
  case sending =>
    subst hn
    exact ctxdLevel_sending ht
  case rate => cases h1 : l.bsel1 <;> cases h0 : l.bsel0 <;> simp [lineRate, h1, h0]
  case frame =>
    obtain ⟨n, c1, c2, hn, hbytes, hcrc⟩ := frameBytes_eq m hm
    exact ⟨n, c1, c2, hn, hbytes, hcrc, rfl, readFrame_frameTail m hm⟩

end Sys2Proof.Machine
end

section
/-! PROOFS. What the agreement of the NV Controller, the load and the slots, and the validity of the profiles, depend on
(R152, R155, R161), and what keeps them. -/

namespace Sys2Proof.Machine

/-! ## The NV Controller's writes (R161) -/

/-- A write waits only behind a write in progress, and no slot write waits behind a slot write. -/
structure WritesOrdered (n : NvController) : Prop where
  idle : n.inProgress = none → n.lockoutPending = false ∧ n.directoryPending = false ∧ n.slotPending = none
  one  : slotInProgress n = true → n.slotPending = none

theorem StoreSafe.writesOrdered {s : State} (h : StoreSafe s) : WritesOrdered s.nv := ⟨h.idle, h.one⟩

theorem writesOrdered_idleNv : WritesOrdered idleNv := ⟨fun _ => ⟨rfl, rfl, rfl⟩, nofun⟩

/-- While no slot write is in progress, the one held is the one that waits. -/
theorem slotWriteHeld_waiting {n : NvController} (h : slotInProgress n = false) : slotWriteHeld n = n.slotPending := by
  unfold slotInProgress at h
  split at h
  · cases h
  · next hw =>
    unfold slotWriteHeld
    split
    · next w t hi => exact absurd hi (hw w t)
    · rfl

theorem WritesOrdered.held_of_pending {n : NvController} (h : WritesOrdered n) {w : SlotWrite}
    (hw : n.slotPending = some w) : slotWriteHeld n = some w := by
  have hi : slotInProgress n = false := by
    refine Bool.eq_false_iff.mpr fun hp => ?_
    rw [h.one hp] at hw
    cases hw
  exact (slotWriteHeld_waiting hi).trans hw

theorem WritesOrdered.pending_of_free {n : NvController} (h : WritesOrdered n) (hn : slotWriteHeld n = none) :
    slotInProgress n = false ∧ n.slotPending = none := by
  constructor
  · unfold slotInProgress
    split
    · next w t hi => simp [slotWriteHeld, hi] at hn
    · rfl
  · cases hw : n.slotPending with
    | none => rfl
    | some w => cases hn.symm.trans (h.held_of_pending hw)

section Started

variable {now : Nat} {latches : Quad Bool} {d : Designation} {n : NvController}

/-- Starting a write moves a waiting slot write at most into progress. -/
theorem startedNv_slotWriteHeld : slotWriteHeld (startedNv now latches d n) = slotWriteHeld n := by
  unfold startedNv
  split
  · rfl
  · next hi =>
    have hn : slotWriteHeld n = n.slotPending := slotWriteHeld_waiting (by simp only [slotInProgress, hi])
    rw [hn]
    split
    · rfl
    · split
      · rfl
      · split
        · next w hw => exact hw.symm
        · exact hn

theorem startedNv_ordered (h : slotInProgress n = true → n.slotPending = none) :
    WritesOrdered (startedNv now latches d n) := by
  unfold startedNv
  split
  · next w hw => exact ⟨fun hi => (nomatch hw.symm.trans hi), h⟩
  · next hi =>
    split
    · exact ⟨nofun, nofun⟩
    · next hl =>
      split
      · exact ⟨nofun, nofun⟩
      · next hd =>
        split
        · exact ⟨nofun, fun _ => rfl⟩
        · next hs => exact ⟨fun _ => ⟨Bool.eq_false_iff.mpr hl, Bool.eq_false_iff.mpr hd, hs⟩, h⟩

end Started

/-! ## The Profile Store (R155) -/

/-- What the store's agreement reads: the load, the slots' states and the slot write held. -/
theorem StoreSafe.congr {s t : State} (h : StoreSafe s) (hl : t.store.load = s.store.load)
    (hs : t.store.slots = s.store.slots) (hn : WritesOrdered t.nv) (hh : slotWriteHeld t.nv = slotWriteHeld s.nv) :
    StoreSafe t where
  idle := hn.idle
  one := hn.one
  committing := by
    rw [hl, hh]
    exact h.committing
  writing := by
    rw [hl, hs]
    exact h.writing
  expected := by
    rw [hl]
    exact h.expected

/-- A load that is not COMMITTING leaves no slot write held and no slot WRITING. -/
theorem StoreSafe.free {s : State} (h : StoreSafe s) (hl : ∀ k, s.store.load ≠ .committing k) :
    slotWriteHeld s.nv = none ∧ ∀ k, s.store.slots.get k ≠ .writing := by
  refine ⟨Option.eq_none_iff_forall_ne_some.mpr fun w hw => ?_, fun k hk => hl k ((h.writing k).mp hk)⟩
  exact hl w.slot ((h.committing w.slot).mpr (by rw [hw]; rfl))

/-- With no slot write held and no slot WRITING, a load that is not COMMITTING agrees with them. -/
theorem storeSafe_free {s : State} (hn : WritesOrdered s.nv) (hh : slotWriteHeld s.nv = none)
    (hw : ∀ k, s.store.slots.get k ≠ .writing) (hl : ∀ k, s.store.load ≠ .committing k)
    (he : ∀ k n img t, s.store.load = .opened k n img t → n ≤ 8) : StoreSafe s where
  idle := hn.idle
  one := hn.one
  committing k := by
    rw [hh]
    exact ⟨fun h => absurd h (hl k), nofun⟩
  writing k := ⟨fun h => absurd h (hw k), fun h => absurd h (hl k)⟩
  expected := he

/-! ## The profiles (R152, R159) -/

/-- The part holds a profile: it is active at the store or in a block's rules, or announced to a block that has not yet
taken it. -/
inductive HoldsProfile (s : State) : Profile → Prop
  | store : HoldsProfile s s.store.active
  | chain (c : ChainNo) : HoldsProfile s (profileOf s c)
  | toChain {p : Profile} (c : ChainNo) (h : p ∈ (inboxOf s c).activations) : HoldsProfile s p
  | site : HoldsProfile s s.site.profile
  | toSite {p : Profile} (h : p ∈ s.site.activations) : HoldsProfile s p
  | toFastMute {p : Profile} (h : p ∈ s.fastMute.activations) : HoldsProfile s p
  | toTracker {p : Profile} (h : p ∈ s.tracker.activations) : HoldsProfile s p

/-- Every VALID slot's image is a valid image (R155). -/
def SlotsValid (s : State) : Prop :=
  ∀ k, s.store.slots.get k = .valid → ∃ img, s.array.slots.get k = .bytes img ∧ imageValid img

/-- A property of the profiles held is one of the profiles at each block. -/
theorem HoldsProfile.imp {s : State} {p : Profile} {q : Profile → Prop} (h : HoldsProfile s p)
    (hstore : q s.store.active) (hchain : ∀ c, q (profileOf s c) ∧ ∀ p ∈ (inboxOf s c).activations, q p)
    (hsite : q s.site.profile ∧ ∀ p ∈ s.site.activations, q p) (hfast : ∀ p ∈ s.fastMute.activations, q p)
    (htrack : ∀ p ∈ s.tracker.activations, q p) : q p := by
  cases h with
  | store => exact hstore
  | chain c => exact (hchain c).1
  | toChain c hm => exact (hchain c).2 p hm
  | site => exact hsite.1
  | toSite hm => exact hsite.2 p hm
  | toFastMute hm => exact hfast p hm
  | toTracker hm => exact htrack p hm

theorem ProfilesSafe.good {s : State} (h : ProfilesSafe s) {p : Profile} (hp : HoldsProfile s p) : ProfileGood p :=
  hp.imp h.active h.chains h.site h.fastMute h.tracker

/-- A slot write that waits is the one held, so the write held says it all. -/
theorem profilesSafe_of {s : State} (hg : ∀ p, HoldsProfile s p → ProfileGood p) (hs : SlotsValid s)
    (hw : ∀ w, slotWriteHeld s.nv = some w → imageValid w.image) (hn : WritesOrdered s.nv) : ProfilesSafe s where
  active := hg _ .store
  chains c := ⟨hg _ (.chain c), fun _ h => hg _ (.toChain c h)⟩
  site := ⟨hg _ .site, fun _ h => hg _ (.toSite h)⟩
  fastMute _ h := hg _ (.toFastMute h)
  tracker _ h := hg _ (.toTracker h)
  slots := hs
  write := hw
  pending w h := hw w (hn.held_of_pending h)

/-- The chains hold the profiles they held, and no new one waits for them. -/
def ChainProfilesKept (s t : State) : Prop :=
  ∀ c, profileOf t c = profileOf s c ∧ (inboxOf t c).activations = (inboxOf s c).activations

/-- The profiles held outside the chains. -/
def profilesBeside (s : State) : Profile × Profile × List Profile × List Profile × List Profile :=
  (s.store.active, s.site.profile, s.site.activations, s.fastMute.activations, s.tracker.activations)

theorem HoldsProfile.congr {s t : State} {p : Profile} (h : HoldsProfile t p) (hc : ChainProfilesKept s t)
    (hb : profilesBeside t = profilesBeside s) : HoldsProfile s p := by
  simp only [profilesBeside, Prod.mk.injEq] at hb
  obtain ⟨ha, hp, hsite, hfast, htrack⟩ := hb
  refine h.imp (ha ▸ .store) (fun c => ?_) (hp ▸ hsite ▸ ⟨.site, fun _ hm => .toSite hm⟩)
    (hfast ▸ fun _ hm => .toFastMute hm) (htrack ▸ fun _ hm => .toTracker hm)
  rw [(hc c).1, (hc c).2]
  exact ⟨.chain c, fun _ hm => .toChain c hm⟩

theorem HoldsProfile.of_same (s : State) {t : State} {p : Profile} (h : HoldsProfile t p)
    (hc : t.chains = s.chains) (hb : profilesBeside t = profilesBeside s) : HoldsProfile s p :=
  h.congr (fun c => by simp only [profileOf, inboxOf, hc, and_self]) hb

/-! ## What an event keeps -/

/-- What took `s` to `t` kept the store, the load and the writes in agreement, and with that the profiles valid. -/
structure AgreementKept (s t : State) : Prop where
  store    : StoreSafe s → StoreSafe t
  profiles : StoreSafe s → ProfilesSafe s → ProfilesSafe t

theorem AgreementKept.refl (s : State) : AgreementKept s s := ⟨id, fun _ => id⟩

theorem AgreementKept.trans {s t u : State} (h : AgreementKept s t) (k : AgreementKept t u) : AgreementKept s u :=
  ⟨fun hs => k.store (h.store hs), fun hs hp => k.profiles (h.store hs) (h.profiles hs hp)⟩

theorem agreementKept_ite {p : Prop} [Decidable p] {s t : State} (h : AgreementKept s t) :
    AgreementKept s (if p then t else s) := by
  split
  · exact h
  · exact AgreementKept.refl s

/-- An event that leaves the load, the slots and the slot write held, and makes no profile bad. -/
theorem agreementKept_of {s t : State} (hl : t.store.load = s.store.load) (hs : t.store.slots = s.store.slots)
    (ha : t.array.slots = s.array.slots) (hn : WritesOrdered s.nv → WritesOrdered t.nv)
    (hh : slotWriteHeld t.nv = slotWriteHeld s.nv)
    (hp : ProfilesSafe s → ∀ p, HoldsProfile t p → ProfileGood p) : AgreementKept s t where
  store h := h.congr hl hs (hn h.writesOrdered) hh
  profiles h hps := by
    refine profilesSafe_of (hp hps) ?_ ?_ (hn h.writesOrdered)
    · unfold SlotsValid
      rw [hs, ha]
      exact hps.slots
    · rw [hh]
      exact hps.write

/-- An event that leaves the store, the array's slots and the NV Controller, and after which no profile is held that was
not held before. -/
theorem agreementKept_of_held {s t : State} (hst : t.store = s.store) (ha : t.array.slots = s.array.slots)
    (hn : t.nv = s.nv) (hp : ∀ p, HoldsProfile t p → HoldsProfile s p) : AgreementKept s t :=
  agreementKept_of (by rw [hst]) (by rw [hst]) ha (by rw [hn]; exact id) (by rw [hn]) fun h p ht => h.good (hp p ht)

/-- What the agreement reads outside the chains. -/
def agreementView (s : State) : ProfileStore × Trio NvCell × NvController ×
    Profile × Profile × List Profile × List Profile × List Profile :=
  (s.store, s.array.slots, s.nv, profilesBeside s)

/-- An event that leaves all that the agreement reads. -/
theorem agreementKept_same {s t : State} (hv : agreementView t = agreementView s) (hc : ChainProfilesKept s t) :
    AgreementKept s t := by
  simp only [agreementView, Prod.mk.injEq] at hv
  obtain ⟨hst, ha, hn, hb⟩ := hv
  exact agreementKept_of_held hst ha hn fun _ hp => hp.congr hc hb

/-- An event that leaves the chains too. -/
theorem agreementKept_beside {s t : State} (hv : agreementView t = agreementView s) (hc : t.chains = s.chains) :
    AgreementKept s t :=
  agreementKept_same hv fun c => by
    simp only [profileOf, inboxOf, hc, and_self]

/-- The store, the array's slots and the profiles are left, and a write is requested or started. -/
theorem agreementKept_started {s t : State} {now : Nat} {latches : Quad Bool} {d : Designation} {n : NvController}
    (hl : t.store.load = s.store.load) (hs : t.store.slots = s.store.slots) (ha : t.array.slots = s.array.slots)
    (hn : t.nv = startedNv now latches d n) (hi : n.inProgress = s.nv.inProgress)
    (hw : n.slotPending = s.nv.slotPending) (hp : ∀ p, HoldsProfile t p → HoldsProfile s p) : AgreementKept s t := by
  have hslot : slotInProgress n = slotInProgress s.nv := by
    unfold slotInProgress
    rw [hi]
  have hheld : slotWriteHeld n = slotWriteHeld s.nv := by
    unfold slotWriteHeld
    rw [hi, hw]
  refine agreementKept_of hl hs ha (fun ho => ?_) ?_ fun h p ht => h.good (hp p ht)
  · rw [hn]
    exact startedNv_ordered (by rw [hslot, hw]; exact ho.one)
  · rw [hn, startedNv_slotWriteHeld, hheld]

end Sys2Proof.Machine
end

section
/-! PROOFS. The operations and events that touch neither the load, the slots nor the profiles keep them in agreement (R155,
R161). -/

namespace Sys2Proof.Machine

/-! ## The shared operations -/

/-- One chain's Supervisor replaced by one with its profile and its announcements. -/
theorem chainProfilesKept_set {c : ChainNo} {x : Chain} {s t : State} (h : t.chains = s.chains.set c x)
    (hp : x.profile = profileOf s c) (ha : x.inbox.activations = (inboxOf s c).activations) :
    ChainProfilesKept s t := by
  intro d
  simp only [profileOf, inboxOf, h, Quad.get_set]
  split
  · next hd =>
    subst hd
    exact ⟨hp, ha⟩
  · exact ⟨rfl, rfl⟩

theorem elapse_agrees (dt : Nat) (s : State) : AgreementKept s (elapse dt s) := agreementKept_beside rfl rfl

theorem raiseSite_agrees (s : State) : AgreementKept s (raiseSite s) := by
  rw [raiseSite_frame]
  exact agreementKept_beside rfl rfl

theorem setAlarms_agrees (a : AlarmReasons) (s : State) : AgreementKept s (setAlarms a s) := by
  rw [setAlarms_frame]
  exact agreementKept_beside rfl rfl

theorem finish_agrees (s : State) : AgreementKept s (finish s) := by
  rw [finish_frame]
  exact agreementKept_beside rfl rfl

theorem AgreementKept.finished {s t : State} (h : AgreementKept s t) : AgreementKept s (finish t) :=
  h.trans (finish_agrees t)

theorem setInbox_agrees {c : ChainNo} {b : ChainInbox} {s : State}
    (h : b.activations = (inboxOf s c).activations) : AgreementKept s (setInbox c b s) :=
  agreementKept_same rfl (chainProfilesKept_set rfl rfl h)

theorem setRecord_agrees (c : ChainNo) (r : ChainRecord) (s : State) : AgreementKept s (setRecord c r s) :=
  agreementKept_same rfl (chainProfilesKept_set rfl rfl rfl)

theorem deliverAll_agrees {f : ChainInbox → ChainInbox} (h : ∀ b, (f b).activations = b.activations) (s : State) :
    AgreementKept s (deliverAll f s) :=
  agreementKept_same rfl fun c => by simp [profileOf, inboxOf, h]

theorem deliverSite_agrees (x : SiteDelivery) (s : State) : AgreementKept s (deliverSite x s) := by
  unfold deliverSite
  split
  · exact AgreementKept.refl s
  · exact deliverAll_agrees (fun _ => by rfl) s

theorem setSite_agrees (r : SiteRecord) (s : State) : AgreementKept s (setSite r s) := agreementKept_beside rfl rfl

theorem handRecord_agrees (k : Fin 5) (x : CaptureRecord) (s : State) : AgreementKept s (handRecord k x s) :=
  agreementKept_beside rfl rfl

/-- A committed record requests at most a lockout record write. -/
theorem commitChain_agrees (c : ChainNo) (r : ChainRecord) (s : State) : AgreementKept s (commitChain c r s) := by
  have hf := commitChain_frame c r s
  have hn := commitChain_nv c r s
  generalize commitChain c r s = t at hf hn
  have hst : t.store = s.store := by rw [hf]
  have ha : t.array.slots = s.array.slots := by rw [hf]
  have hc : ChainProfilesKept s t :=
    chainProfilesKept_set (x := { s.chains.get c with record := r }) (by rw [hf]) rfl rfl
  have hb : profilesBeside t = profilesBeside s := by
    rw [hf]
    rfl
  have hp (p : Profile) (h : HoldsProfile t p) : HoldsProfile s p := h.congr hc hb
  split at hn
  · exact agreementKept_of_held hst ha hn hp
  · exact agreementKept_started (by rw [hst]) (by rw [hst]) ha hn rfl rfl hp

theorem handedCommit_agrees (c : ChainNo) (k : Fin 5) (x : CaptureRecord) (r : ChainRecord) (s : State) :
    AgreementKept s (commitChain c r (handRecord k x s)) :=
  (handRecord_agrees k x s).trans (commitChain_agrees c r _)

theorem slowTrip_agrees (c : ChainNo) (cause : TripCause) (tripTime : Word32) (run : RunState) (a : Nat)
    (r : ChainRecord) (s : State) : AgreementKept s (slowTrip c cause tripTime run a r s) :=
  handedCommit_agrees _ _ _ _ s

/-! ## The Measurement Intake -/

theorem acceptFrame_agrees (g : GroupNo) (header : Word16) (fields : List Word16) (s : State) :
    AgreementKept s (acceptFrame g header fields s) := by
  cases g with
  | chain c => exact agreementKept_same rfl (chainProfilesKept_set (c := c) rfl rfl rfl)
  | site => exact agreementKept_beside rfl rfl

theorem endFrame_agrees (bits : List Bool) (g : GroupNo) (x : FrameWords) (s : State) :
    AgreementKept s (endFrame bits g x s) := by
  unfold endFrame
  extract_lets s1
  have h1 : AgreementKept s s1 := agreementKept_beside rfl rfl
  split
  · exact h1.trans (agreementKept_beside rfl rfl)
  · exact h1.trans (acceptFrame_agrees _ _ _ s1)

theorem sampleFrameEvent_agrees (bits : List Bool) (s : State) : AgreementKept s (sampleFrameEvent bits s) := by
  unfold sampleFrameEvent
  split
  · split
    · split
      · exact endFrame_agrees _ _ _ s
      · exact AgreementKept.refl s
    · exact AgreementKept.refl s
  · exact AgreementKept.refl s

theorem discardGroup_agrees (bits : List Bool) (s : State) : AgreementKept s (discardGroup bits s) :=
  agreementKept_ite (agreementKept_beside rfl rfl)

theorem restartFrame_agrees (bits : List Bool) (s : State) : AgreementKept s (restartFrame bits s) :=
  agreementKept_ite (agreementKept_beside rfl rfl)

theorem timeOutFrame_agrees (bits : List Bool) (quiet : Nat) (s : State) :
    AgreementKept s (timeOutFrame bits quiet s) := by
  unfold timeOutFrame
  split
  · exact agreementKept_ite (agreementKept_beside rfl rfl)
  · exact AgreementKept.refl s

theorem matchSync_agrees (bits : List Bool) (s : State) : AgreementKept s (matchSync bits s) := by
  unfold matchSync
  split
  · split
    · exact agreementKept_beside rfl rfl
    · exact agreementKept_beside rfl rfl
    · exact AgreementKept.refl s
  · exact AgreementKept.refl s

theorem reachStale_agrees (g : GroupNo) (s : State) : AgreementKept s (reachStale g s) := by
  unfold reachStale
  split
  · next c => exact agreementKept_ite (agreementKept_same rfl (chainProfilesKept_set (c := c) rfl rfl rfl))
  · exact agreementKept_ite (agreementKept_beside rfl rfl)

theorem reachLost_agrees (g : GroupNo) (s : State) : AgreementKept s (reachLost g s) := by
  unfold reachLost
  split
  · next c =>
    split
    · exact agreementKept_same rfl (chainProfilesKept_set (c := c) rfl rfl rfl)
    · exact AgreementKept.refl s
  · split
    · exact agreementKept_beside rfl rfl
    · exact AgreementKept.refl s

theorem edgeFlow_agrees (c : ChainNo) (high : Bool) (s : State) : AgreementKept s (edgeFlow c high s) := by
  unfold edgeFlow whileRunning
  split
  · exact AgreementKept.refl s
  · split <;> exact agreementKept_beside rfl rfl

theorem qualifyFlow_agrees (c : ChainNo) (s : State) : AgreementKept s (qualifyFlow c s) :=
  agreementKept_ite (agreementKept_beside rfl rfl)

theorem rearmFlow_agrees (c : ChainNo) (s : State) : AgreementKept s (rearmFlow c s) :=
  agreementKept_ite (agreementKept_beside rfl rfl)

theorem endGate_agrees (s : State) : AgreementKept s (endGate s) :=
  agreementKept_ite (agreementKept_same rfl fun c => by simp [profileOf, inboxOf, chainOfState])

/-! ## The Fast Mute Unit -/

theorem setFastLine_agrees (n : FastLineNo) (l : FastLine) (s : State) : AgreementKept s (setFastLine n l s) := by
  cases n with
  | arc k => exact agreementKept_beside rfl rfl
  | surge c => exact agreementKept_beside rfl rfl

theorem edgeFast_agrees (n : FastLineNo) (high : Bool) (s : State) : AgreementKept s (edgeFast n high s) := by
  have hpins : AgreementKept s { s with pins := setFastLevel n high s.pins } := agreementKept_beside rfl rfl
  unfold edgeFast whileRunning
  split
  · exact AgreementKept.refl s
  · split
    · exact hpins.trans (setFastLine_agrees _ _ _)
    · exact hpins

theorem forwardPulse_agrees (n : FastLineNo) (stamp : PulseStamp) (s : State) :
    AgreementKept s (forwardPulse n stamp s) := by
  cases n with
  | arc k =>
    refine agreementKept_same rfl fun c => ?_
    simp only [forwardPulse, forwardArc, profileOf, inboxOf, Quad.get_ofFn]
    split <;> exact ⟨rfl, rfl⟩
  | surge c => exact setInbox_agrees rfl

theorem qualifyFast_agrees (n : FastLineNo) (s : State) : AgreementKept s (qualifyFast n s) := by
  unfold qualifyFast
  extract_lets l
  split
  · exact agreementKept_ite ((setFastLine_agrees _ _ s).trans (forwardPulse_agrees _ _ _))
  · exact AgreementKept.refl s

theorem rearmFast_agrees (n : FastLineNo) (s : State) : AgreementKept s (rearmFast n s) :=
  agreementKept_ite (setFastLine_agrees _ _ s)

/-! ## The Frame Timing Reference -/

/-- The tracker replaced by one with no new announcement. -/
theorem setTracker_held {t : Tracker} {s : State} (h : t.activations ⊆ s.tracker.activations) :
    AgreementKept s (setTracker t s) :=
  agreementKept_of_held rfl rfl rfl fun _ hp =>
    hp.imp .store (fun c => ⟨.chain c, fun _ hm => .toChain c hm⟩) ⟨.site, fun _ hm => .toSite hm⟩
      (fun _ hm => .toFastMute hm) fun _ hm => .toTracker (h hm)

/-- A tracker with no new announcement, with or without a tick delivered. -/
theorem putTracker_held {x : Tracker × Bool} {s : State} (h : x.1.activations ⊆ s.tracker.activations) :
    AgreementKept s (putTracker x s) := by
  have h1 : AgreementKept s (setTracker x.1 s) := setTracker_held h
  unfold putTracker
  extract_lets s1
  split
  · exact h1.trans (deliverAll_agrees (fun _ => by rfl) s1)
  · exact h1

theorem putTracker_agrees {x : Tracker × Bool} {s : State} (h : x.1.activations = s.tracker.activations) :
    AgreementKept s (putTracker x s) := putTracker_held fun _ hp => h ▸ hp

theorem markTracker_activations (now : Word32) (t : Tracker) : (markTracker now t).1.activations = t.activations := by
  unfold markTracker searchMarker lockedMarker
  dsimp only
  split
  · split
    · split <;> rfl
    · rfl
  · split <;> rfl

theorem missWindow_activations (pe misses : Nat) (t : Tracker) :
    (missWindow pe misses t).activations = t.activations := by
  unfold missWindow
  dsimp only
  split <;> rfl

theorem retune_activations (now : Word32) (tn : Nat) (t : Tracker) :
    (retune now tn t).1.activations = t.activations := by
  unfold retune
  dsimp only
  split <;> rfl

theorem edgeMarker_agrees (high : Bool) (s : State) : AgreementKept s (edgeMarker high s) := by
  unfold edgeMarker whileRunning
  split
  · exact AgreementKept.refl s
  · split <;> exact agreementKept_beside rfl rfl

theorem rearmMarker_agrees (s : State) : AgreementKept s (rearmMarker s) :=
  agreementKept_ite (agreementKept_beside rfl rfl)

theorem markerEvent_agrees (s : State) : AgreementKept s (markerEvent s) := by
  unfold markerEvent
  split
  · exact agreementKept_ite (putTracker_agrees (markTracker_activations _ _))
  · exact AgreementKept.refl s

theorem fallbackEvent_agrees (s : State) : AgreementKept s (fallbackEvent s) := by
  unfold fallbackEvent
  split
  · exact agreementKept_ite (putTracker_agrees rfl)
  · exact AgreementKept.refl s

theorem dropPrevious_agrees (s : State) : AgreementKept s (dropPrevious s) := by
  unfold dropPrevious
  split
  · exact agreementKept_ite (agreementKept_beside rfl rfl)
  · exact AgreementKept.refl s

theorem windowEvent_agrees (s : State) : AgreementKept s (windowEvent s) := by
  unfold windowEvent
  split
  · exact agreementKept_ite (putTracker_agrees (missWindow_activations _ _ _))
  · exact AgreementKept.refl s

/-! ## The level bus, the Capture Queue and the Control Link -/

theorem transferEvent_agrees (s : State) : AgreementKept s (transferEvent s) := by
  unfold transferEvent
  split
  · exact agreementKept_ite (agreementKept_beside rfl rfl)
  · exact AgreementKept.refl s

theorem joinEvent_agrees (s : State) : AgreementKept s (joinEvent s) := by
  unfold joinEvent
  split
  · exact AgreementKept.refl s
  · refine AgreementKept.finished ?_
    rw [raiseCapture_frame]
    exact agreementKept_beside rfl rfl

theorem startFrame_agrees (skipped : List Byte) (s : State) : AgreementKept s (startFrame skipped s) := by
  unfold startFrame
  split
  · exact AgreementKept.refl s
  · exact agreementKept_beside rfl rfl

theorem framingErrorEvent_agrees (character : List Bool) (s : State) :
    AgreementKept s (framingErrorEvent character s) := agreementKept_ite (agreementKept_beside rfl rfl)

theorem discardFrame_agrees (frame : List Byte) (s : State) : AgreementKept s (discardFrame frame s) :=
  agreementKept_ite (agreementKept_beside rfl rfl)

theorem gapEvent_agrees (frame : List Byte) (quiet : Nat) (s : State) : AgreementKept s (gapEvent frame quiet s) := by
  unfold gapEvent
  split
  · exact agreementKept_ite (agreementKept_beside rfl rfl)
  · exact AgreementKept.refl s

theorem messageSent_agrees (t : Transmission) (s : State) : AgreementKept s (messageSent t s) := by
  unfold messageSent
  split <;> exact agreementKept_beside rfl rfl

theorem transmitEvent_agrees (s : State) : AgreementKept s (transmitEvent s) := by
  unfold transmitEvent
  split
  · exact agreementKept_ite (messageSent_agrees _ s).finished
  · exact AgreementKept.refl s

/-! ## The Site Monitor -/

theorem setSiteIntake_agrees (l : List (IntakeEvent SiteReadings)) (s : State) :
    AgreementKept s (setSiteIntake l s) := agreementKept_beside rfl rfl

theorem deliverSite_setSite_agrees (x : SiteDelivery) (r : SiteRecord) (s : State) :
    AgreementKept s (deliverSite x (setSite r s)) := (setSite_agrees r s).trans (deliverSite_agrees x _)

theorem takeSiteEvaluation_agrees (x : SiteReadings) (returned : Bool) (s : State) :
    AgreementKept s (takeSiteEvaluation x returned s) := by
  unfold takeSiteEvaluation
  extract_lets old r s1 s2
  have h1 : AgreementKept s s1 := agreementKept_ite ((setAlarms_agrees _ s).trans (raiseSite_agrees _))
  have h2 : AgreementKept s s2 := h1.trans (deliverSite_setSite_agrees _ _ s1)
  split
  · exact h2
  · exact h2.trans (raiseSite_agrees s2)

theorem takeSiteStale_agrees (s : State) : AgreementKept s (takeSiteStale s) :=
  (deliverSite_setSite_agrees _ _ s).trans (raiseSite_agrees _)

theorem takeSiteLost_agrees (s : State) : AgreementKept s (takeSiteLost s) :=
  ((deliverSite_setSite_agrees _ _ s).trans (setAlarms_agrees _ _)).trans (raiseSite_agrees _)

theorem siteEvaluationEvent_agrees (s : State) : AgreementKept s (siteEvaluationEvent s) := by
  unfold siteEvaluationEvent
  split
  · exact ((setSiteIntake_agrees _ s).trans (takeSiteEvaluation_agrees _ _ _)).finished
  · exact AgreementKept.refl s

theorem siteStaleEvent_agrees (s : State) : AgreementKept s (siteStaleEvent s) := by
  unfold siteStaleEvent
  split
  · exact ((setSiteIntake_agrees _ s).trans (takeSiteStale_agrees _)).finished
  · exact AgreementKept.refl s

theorem siteLostEvent_agrees (s : State) : AgreementKept s (siteLostEvent s) := by
  unfold siteLostEvent
  split
  · exact ((setSiteIntake_agrees _ s).trans (takeSiteLost_agrees _)).finished
  · exact AgreementKept.refl s

theorem edgeInterlock_agrees (high : Bool) (s : State) : AgreementKept s (edgeInterlock high s) := by
  unfold edgeInterlock whileRunning
  split
  · exact AgreementKept.refl s
  · split <;> exact agreementKept_beside rfl rfl

theorem openInterlock_agrees (s : State) : AgreementKept s (openInterlock s) := by
  have hi : AgreementKept s (handRecord 4 (interlockCapture s) (setInterlock .opened s)) :=
    (setSite_agrees _ s).trans (handRecord_agrees _ _ _)
  exact agreementKept_ite
    ((hi.trans (deliverAll_agrees (fun _ => by rfl) _)).trans (raiseSite_agrees _)).finished

theorem closeInterlock_agrees (s : State) : AgreementKept s (closeInterlock s) := by
  have hi : AgreementKept s (setInterlock .closed s) := setSite_agrees _ s
  exact agreementKept_ite
    ((hi.trans (deliverAll_agrees (fun _ => by rfl) _)).trans (raiseSite_agrees _)).finished

/-! ## What a chain takes -/

section Taking

variable (c : ChainNo) (s : State)

theorem takeFlowResult_agrees (x : FlowResult) : AgreementKept s (takeFlowResult c x s) := by
  unfold takeFlowResult
  extract_lets old r
  split
  · split
    · exact slowTrip_agrees _ _ _ _ _ _ s
    · exact commitChain_agrees c _ s
  · exact commitChain_agrees c _ s

theorem takeEvaluation_agrees (x : ChainReadings) (returned : Bool) :
    AgreementKept s (takeEvaluation c x returned s) := by
  unfold takeEvaluation
  extract_lets p old r
  split
  · split
    · exact slowTrip_agrees _ _ _ _ _ _ s
    · exact commitChain_agrees c _ s
  · split
    · exact slowTrip_agrees _ _ _ _ _ _ s
    · exact commitChain_agrees c _ s
  · exact commitChain_agrees c _ s
  · exact commitChain_agrees c _ s

theorem takeLost_agrees (due : Word32) : AgreementKept s (takeLost c due s) := by
  unfold takeLost
  extract_lets old r
  split
  · exact slowTrip_agrees _ _ _ _ _ _ s
  · exact commitChain_agrees c _ s

theorem takeSiteTrip_agrees (x : SiteTrip) : AgreementKept s (takeSiteTrip c x s) := by
  unfold takeSiteTrip
  extract_lets old
  split
  · exact slowTrip_agrees _ _ _ _ _ _ s
  · exact commitChain_agrees c _ s

theorem takeOpening_agrees : AgreementKept s (takeOpening c s) := by
  unfold takeOpening
  extract_lets old
  split <;> exact commitChain_agrees c _ s

theorem switchOff_agrees : AgreementKept s (switchOff c s) := by
  unfold switchOff
  extract_lets r
  split
  · exact AgreementKept.refl s
  · exact handedCommit_agrees _ _ _ _ s
  · exact commitChain_agrees c _ s

end Taking

/-! ## The chains' events -/

section ChainEvents

variable (c : ChainNo) (s : State)

/-- An event taken from a chain's inbox, its announcements left, and finished. -/
theorem taken_agrees {c : ChainNo} {b : ChainInbox} {s : State} {take : State → State}
    (hb : b.activations = (inboxOf s c).activations) (ht : ∀ u, AgreementKept u (take u)) :
    AgreementKept s (finish (take (setInbox c b s))) := ((setInbox_agrees hb).trans (ht _)).finished

theorem flowResultEvent_agrees : AgreementKept s (flowResultEvent c s) := by
  unfold flowResultEvent
  split
  · exact AgreementKept.refl s
  · exact taken_agrees rfl fun u => takeFlowResult_agrees c u _

theorem evaluationEvent_agrees : AgreementKept s (evaluationEvent c s) := by
  unfold evaluationEvent
  split
  · exact taken_agrees rfl fun u => takeEvaluation_agrees c u _ _
  · exact AgreementKept.refl s

theorem freshnessEvent_agrees : AgreementKept s (freshnessEvent c s) := by
  unfold freshnessEvent
  split
  · exact taken_agrees (take := takeStale c) rfl fun u => commitChain_agrees c _ u
  · exact taken_agrees rfl fun u => takeLost_agrees c u _
  · exact AgreementKept.refl s

theorem ceilingEvent_agrees : AgreementKept s (ceilingEvent c s) := by
  unfold ceilingEvent
  split
  · exact taken_agrees (take := takeCeiling c _) rfl fun u => commitChain_agrees c _ u
  · exact AgreementKept.refl s

theorem siteTripTaken_agrees : AgreementKept s (siteTripTaken c s) := by
  unfold siteTripTaken
  split
  · exact taken_agrees rfl fun u => takeSiteTrip_agrees c u _
  · exact AgreementKept.refl s

theorem siteLossTaken_agrees : AgreementKept s (siteLossTaken c s) := by
  unfold siteLossTaken
  split
  · exact taken_agrees (take := takeSiteLoss c) rfl fun u => commitChain_agrees c _ u
  · exact AgreementKept.refl s

theorem openingEvent_agrees : AgreementKept s (openingEvent c s) := by
  unfold openingEvent
  split
  · exact taken_agrees rfl (takeOpening_agrees c)
  · exact AgreementKept.refl s

theorem closingEvent_agrees : AgreementKept s (closingEvent c s) := by
  unfold closingEvent
  split
  · exact setInbox_agrees rfl
  · exact AgreementKept.refl s

theorem arcEvent_agrees : AgreementKept s (arcEvent c s) := by
  unfold arcEvent
  split
  · exact AgreementKept.refl s
  · exact taken_agrees rfl (commitChain_agrees c _)

theorem surgeEvent_agrees : AgreementKept s (surgeEvent c s) := by
  unfold surgeEvent
  split
  · exact AgreementKept.refl s
  · exact taken_agrees rfl (commitChain_agrees c _)

theorem tickEvent_agrees : AgreementKept s (tickEvent c s) := by
  unfold tickEvent
  split
  · exact AgreementKept.refl s
  · exact taken_agrees rfl (commitChain_agrees c _)

theorem expireWindow_agrees : AgreementKept s (expireWindow c s) := by
  unfold expireWindow
  extract_lets r
  split
  · exact agreementKept_ite (handedCommit_agrees _ _ _ _ s).finished
  · exact AgreementKept.refl s

theorem endDwell_agrees : AgreementKept s (endDwell c s) := by
  unfold endDwell
  extract_lets r
  split
  · exact agreementKept_ite (commitChain_agrees c _ s).finished
  · exact AgreementKept.refl s

theorem expireTrips_agrees : AgreementKept s (expireTrips c s) := setRecord_agrees c _ s

theorem expireRunOn_agrees : AgreementKept s (expireRunOn c s) := by
  unfold expireRunOn
  extract_lets r
  split
  · exact agreementKept_ite (setRecord_agrees c _ s).finished
  · exact AgreementKept.refl s

end ChainEvents

end Sys2Proof.Machine
end

section
/-! PROOFS. The events that move the load, the slots or the profiles keep them in agreement: activations taken, the ends of
the nonvolatile writes, and the profile load (R152, R155, R158, R159, R161). -/

namespace Sys2Proof.Machine

/-! ## Activations taken (R67, R85, R91, R136) -/

/-- A chain's Supervisor replaced by one with a profile the part held and no new announcement. -/
theorem setChain_held {c : ChainNo} {x : Chain} {s : State} (hp : HoldsProfile s x.profile)
    (ha : x.inbox.activations ⊆ (inboxOf s c).activations) : AgreementKept s (setChain c x s) := by
  refine agreementKept_of_held rfl rfl rfl fun _ h => ?_
  refine h.imp .store (fun d => ?_) ⟨.site, fun _ hm => .toSite hm⟩ (fun _ hm => .toFastMute hm)
    fun _ hm => .toTracker hm
  simp only [profileOf, inboxOf, setChain_chains, Quad.get_set]
  split
  · exact ⟨hp, fun _ hm => .toChain c (ha hm)⟩
  · exact ⟨.chain d, fun _ hm => .toChain d hm⟩

theorem chainActivationEvent_agrees (c : ChainNo) (s : State) : AgreementKept s (chainActivationEvent c s) := by
  unfold chainActivationEvent
  split
  · exact AgreementKept.refl s
  · next p rest hin =>
    have hmem (q : Profile) (hq : q ∈ p :: rest) : q ∈ (inboxOf s c).activations := by
      rw [hin]
      exact hq
    have hset : setChain c { chainOfState (setInbox c { inboxOf s c with activations := rest } s) c with profile := p }
          (setInbox c { inboxOf s c with activations := rest } s)
        = setChain c ⟨recordOf s c, { inboxOf s c with activations := rest }, p⟩ s := by
      simp [setChain, setInbox, chainOfState, recordOf]
    have h1 : AgreementKept s (setChain c ⟨recordOf s c, { inboxOf s c with activations := rest }, p⟩ s) :=
      setChain_held (.toChain c (hmem p List.mem_cons_self)) fun _ hq => hmem _ (List.mem_cons_of_mem p hq)
    unfold takeActivation
    rw [hset]
    exact (h1.trans (commitChain_agrees c _ _)).finished

theorem siteActivationEvent_agrees (s : State) : AgreementKept s (siteActivationEvent s) := by
  unfold siteActivationEvent
  split
  · exact AgreementKept.refl s
  · next p rest hin =>
    have hmem (q : Profile) (hq : q ∈ p :: rest) : HoldsProfile s q := .toSite (by rw [hin]; exact hq)
    have h1 : AgreementKept s { s with site := { s.site with profile := p, activations := rest } } :=
      agreementKept_of_held rfl rfl rfl fun _ h =>
        h.imp .store (fun c => ⟨.chain c, fun _ hm => .toChain c hm⟩)
          ⟨hmem p List.mem_cons_self, fun _ hm => hmem _ (List.mem_cons_of_mem p hm)⟩
          (fun _ hm => .toFastMute hm) fun _ hm => .toTracker hm
    exact h1.trans (deliverSite_setSite_agrees _ _ _)

theorem fastMuteActivationEvent_agrees (s : State) : AgreementKept s (fastMuteActivationEvent s) := by
  unfold fastMuteActivationEvent
  split
  · exact AgreementKept.refl s
  · next p rest hin =>
    exact agreementKept_of_held rfl rfl rfl fun _ h =>
      h.imp .store (fun c => ⟨.chain c, fun _ hm => .toChain c hm⟩) ⟨.site, fun _ hm => .toSite hm⟩
        (fun _ hm => .toFastMute (by rw [hin]; exact List.mem_cons_of_mem p hm)) fun _ hm => .toTracker hm

theorem trackerActivationEvent_agrees (s : State) : AgreementKept s (trackerActivationEvent s) := by
  unfold trackerActivationEvent
  split
  · exact AgreementKept.refl s
  · next p rest hin =>
    have hrest : rest ⊆ s.tracker.activations := by
      rw [hin]
      exact List.subset_cons_self p rest
    extract_lets t
    split
    · exact setTracker_held hrest
    · exact putTracker_held (by rw [retune_activations]; exact hrest)

/-! ## The nonvolatile writes (R158, R161) -/

theorem endWrite_nv (s : State) :
    (endWrite s).nv = startedNv s.time (latchesOf s) s.store.directory { s.nv with inProgress := none } :=
  startWrite_nv _

theorem endWrite_frame (s : State) : endWrite s = { s with nv := (endWrite s).nv } := by
  unfold endWrite
  rw [startWrite_frame]

/-- A write that ends leaves the slot write that waits. -/
theorem endWrite_slotWriteHeld (s : State) : slotWriteHeld (endWrite s).nv = s.nv.slotPending := by
  rw [endWrite_nv, startedNv_slotWriteHeld]
  rfl

theorem endWrite_ordered (s : State) : WritesOrdered (endWrite s).nv := by
  rw [endWrite_nv]
  exact startedNv_ordered nofun

/-- The end of a write that is no slot write. -/
theorem endWrite_agrees {s : State} (h : slotInProgress s.nv = false) : AgreementKept s (endWrite s) := by
  have hf := endWrite_frame s
  have hh := endWrite_slotWriteHeld s
  have hn := endWrite_ordered s
  generalize endWrite s = t at hf hh hn
  refine agreementKept_of (by rw [hf]) (by rw [hf]) (by rw [hf]) (fun _ => hn)
    (hh.trans (slotWriteHeld_waiting h).symm) ?_
  rw [hf]
  exact fun hs _ hp => hs.good (hp.of_same s rfl rfl)

/-- A record write's end, with the array's slots left. -/
theorem recordWrite_agrees {a : NvArray} {x : AlarmReasons} {s : State} (ha : a.slots = s.array.slots)
    (h : slotInProgress s.nv = false) :
    AgreementKept s (finish (endWrite (setAlarms x { s with array := a }))) := by
  have h1 : AgreementKept s { s with array := a } :=
    agreementKept_of_held rfl ha rfl fun _ hp => hp.of_same s rfl rfl
  have hnv : slotInProgress (setAlarms x { s with array := a }).nv = false := by
    rw [setAlarms_frame]
    exact h
  exact ((h1.trans (setAlarms_agrees x _)).trans (endWrite_agrees hnv)).finished

theorem lockoutWriteEvent_agrees (s : State) : AgreementKept s (lockoutWriteEvent s) := by
  unfold lockoutWriteEvent
  split
  · next hw => exact agreementKept_ite (recordWrite_agrees rfl (by simp only [slotInProgress, hw]))
  · exact AgreementKept.refl s

theorem directoryWriteEvent_agrees (s : State) : AgreementKept s (directoryWriteEvent s) := by
  unfold directoryWriteEvent
  split
  · next hw => exact agreementKept_ite (recordWrite_agrees rfl (by simp only [slotInProgress, hw]))
  · exact AgreementKept.refl s

theorem replyLoadEnd_frame (w : SlotWrite) (s : State) :
    replyLoadEnd w s = { s with link := (replyLoadEnd w s).link } := by
  unfold replyLoadEnd
  split <;> rfl

/-- The part after slot write `w` has ended, as it stands before the next write starts and the reply is produced. -/
def slotWritten (w : SlotWrite) (s : State) : State :=
  { s with
    array := { s.array with slots := s.array.slots.set w.slot (.bytes w.image) }
    store := { s.store with slots := s.store.slots.set w.slot .valid, load := .closed } }

/-- The slot written is VALID with its image, which passed validation, and no slot is WRITING (R158). -/
theorem slotWritten_agrees {w : SlotWrite} {since : Nat} {s : State} (hw : s.nv.inProgress = some ⟨.slot w, since⟩) :
    AgreementKept s (endWrite (replyLoadEnd w (slotWritten w s))) := by
  have hheld : slotWriteHeld s.nv = some w := by simp only [slotWriteHeld, hw]
  have hnv : (replyLoadEnd w (slotWritten w s)).nv = s.nv := by
    rw [replyLoadEnd_frame]
    rfl
  have hf : endWrite (replyLoadEnd w (slotWritten w s)) = { slotWritten w s with
      nv := (endWrite (replyLoadEnd w (slotWritten w s))).nv
      link := (replyLoadEnd w (slotWritten w s)).link } := by
    rw [endWrite_frame, replyLoadEnd_frame]
  have hn := endWrite_ordered (replyLoadEnd w (slotWritten w s))
  have hh := endWrite_slotWriteHeld (replyLoadEnd w (slotWritten w s))
  rw [hnv] at hh
  generalize endWrite (replyLoadEnd w (slotWritten w s)) = t at hf hn hh
  have hslots (k : Fin 3) : t.store.slots.get k = if k = w.slot then .valid else s.store.slots.get k := by
    rw [hf]
    exact Trio.get_set _ _ _ _
  have harray (k : Fin 3) : t.array.slots.get k = if k = w.slot then .bytes w.image else s.array.slots.get k := by
    rw [hf]
    exact Trio.get_set _ _ _ _
  have hl : t.store.load = .closed := by
    rw [hf]
    rfl
  have hnone (h : StoreSafe s) : slotWriteHeld t.nv = none := hh.trans (h.one (by simp only [slotInProgress, hw]))
  constructor
  · intro h
    refine storeSafe_free hn (hnone h) (fun k hk => ?_) (by simp [hl]) (by simp [hl])
    rw [hslots] at hk
    split at hk
    · cases hk
    · next hne =>
      have hc := (h.committing k).mp ((h.writing k).mp hk)
      rw [hheld] at hc
      cases hc
      exact hne rfl
  · intro h hs
    refine profilesSafe_of (fun p hp => ?_) (fun k hk => ?_) (fun v hv => nomatch (hnone h).symm.trans hv) hn
    · rw [hf] at hp
      exact hs.good (hp.of_same s rfl rfl)
    · rw [hslots] at hk
      rw [harray]
      split at hk
      · next he => exact ⟨w.image, by rw [if_pos he], hs.write w hheld⟩
      · next hne =>
        rw [if_neg hne]
        exact hs.slots k hk

theorem slotWriteEvent_agrees (s : State) : AgreementKept s (slotWriteEvent s) := by
  unfold slotWriteEvent
  split
  · next hw => exact agreementKept_ite (slotWritten_agrees hw).finished
  · exact AgreementKept.refl s

/-! ## Profile loads (R156 to R158) -/

/-- A load that is not COMMITTING replaced by another that is not. -/
theorem setLoad_agrees {l : Load} {s : State} (hs : ∀ k, s.store.load ≠ .committing k) (hl : ∀ k, l ≠ .committing k)
    (he : StoreSafe s → ∀ k n img t, l = .opened k n img t → n ≤ 8) : AgreementKept s (setLoad l s) where
  store h := storeSafe_free h.writesOrdered (h.free hs).1 (h.free hs).2 hl (he h)
  profiles h hp := profilesSafe_of (fun _ hq => hp.good (hq.of_same s rfl rfl)) hp.slots hp.write
    h.writesOrdered

theorem setLoad_closed_agrees {s : State} (hs : ∀ k, s.store.load ≠ .committing k) :
    AgreementKept s (setLoad .closed s) := setLoad_agrees hs nofun nofun

theorem opened_not_committing {s : State} {k : Fin 3} {n t : Nat} {img : List Byte}
    (h : s.store.load = .opened k n img t) (j : Fin 3) : s.store.load ≠ .committing j := by
  rw [h]
  exact nofun

theorem loadTimerEvent_agrees (s : State) : AgreementKept s (loadTimerEvent s) := by
  unfold loadTimerEvent
  split
  · next hl => exact agreementKept_ite (setLoad_closed_agrees (opened_not_committing hl))
  · exact AgreementKept.refl s

theorem commitImage_frame (k : Fin 3) (img : List Byte) (s : State) : commitImage k img s = { s with
    store := { s.store with load := .committing k, slots := s.store.slots.set k .writing }
    nv := (commitImage k img s).nv } := startWrite_frame _

theorem commitImage_nv (k : Fin 3) (img : List Byte) (s : State) : (commitImage k img s).nv
    = startedNv s.time (latchesOf s) s.store.directory { s.nv with slotPending := some ⟨k, img⟩ } := startWrite_nv _

/-- A good and valid image committed: its slot alone is WRITING, and its write is held (R158). -/
theorem commitImage_agrees {k : Fin 3} {img : List Byte} {s : State} (hs : ∀ j, s.store.load ≠ .committing j)
    (hv : imageValid img) : AgreementKept s (commitImage k img s) := by
  have hf := commitImage_frame k img s
  have hnv := commitImage_nv k img s
  generalize commitImage k img s = t at hf hnv
  have hl : t.store.load = .committing k := by rw [hf]
  have hslots (j : Fin 3) : t.store.slots.get j = if j = k then .writing else s.store.slots.get j := by
    rw [hf]
    exact Trio.get_set _ _ _ _
  have hwait (h : StoreSafe s) : slotInProgress s.nv = false :=
    (h.writesOrdered.pending_of_free (h.free hs).1).1
  have hheld (h : StoreSafe s) : slotWriteHeld t.nv = some ⟨k, img⟩ := by
    rw [hnv, startedNv_slotWriteHeld]
    exact slotWriteHeld_waiting (hwait h)
  have hn (h : StoreSafe s) : WritesOrdered t.nv := by
    rw [hnv]
    exact startedNv_ordered fun hi => nomatch (hwait h).symm.trans hi
  constructor
  · intro h
    refine ⟨(hn h).idle, (hn h).one, fun j => ?_, fun j => ?_, fun j n i u ho => nomatch hl.symm.trans ho⟩
    · rw [hl, hheld h]
      simp
    · rw [hl, hslots]
      split
      · next hj => simp [hj]
      · next hj =>
        have hw := (h.free hs).2 j
        simp [hw, Ne.symm hj]
  · intro h hp
    refine profilesSafe_of (fun p hq => ?_) (fun j hj => ?_) (fun w hw => ?_) (hn h)
    · rw [hf] at hq
      exact hp.good (hq.of_same s rfl rfl)
    · rw [hslots] at hj
      split at hj
      · cases hj
      · rw [hf]
        exact hp.slots j hj
    · cases (hheld h).symm.trans hw
      exact hv

end Sys2Proof.Machine
end

section
/-! PROOFS. The requests, the resets and the end of start-up keep the store, the writes and the profiles in agreement; and
with them every step (R152, R155, R158, R159, R161, R162). -/

namespace Sys2Proof.Machine

/-! ## Requests -/

/-- A request's owner keeps the agreement. -/
def ServesAgreed (serve : List Byte → State → State × Answer) : Prop := ∀ body s, AgreementKept s (serve body s).1

theorem produceReply_agrees (kind tag : Byte) (a : Answer) (s : State) :
    AgreementKept s (produceReply kind tag a s) := by
  cases a with
  | accept body => exact agreementKept_beside rfl rfl
  | refuse why detail => exact agreementKept_beside rfl rfl
  | hold => exact AgreementKept.refl s

theorem serveRequest_agrees {serve : List Byte → State → State × Answer} (hv : ServesAgreed serve) (m : Message)
    (n : Nat) (s : State) : AgreementKept s (serveRequest m n serve s) := by
  unfold serveRequest
  split
  · exact ((hv m.body s).trans (produceReply_agrees _ _ _ _)).finished
  · exact (produceReply_agrees _ _ _ s).finished

/-- A frame received is taken, or goes to the overlap slot. -/
theorem receiveFrame_agrees {m : Message} {take : State → State} (ht : ∀ s, AgreementKept s (take s)) (s : State) :
    AgreementKept s (receiveFrame m take s) := by
  unfold receiveFrame
  extract_lets s1
  have h1 : AgreementKept s s1 := agreementKept_beside rfl rfl
  split
  · unfold overlapSlot
    split
    · exact h1
    · exact h1.trans (agreementKept_beside rfl rfl)
  · have h2 : AgreementKept s (takeInHand m.kind m.tag s1) := agreementKept_beside rfl rfl
    exact h2.trans (ht _)

theorem takeRequest_agrees {serve : List Byte → State → State × Answer} (hv : ServesAgreed serve) (kind : Byte)
    (n : Nat) (frame : List Byte) (s : State) : AgreementKept s (takeRequest kind n serve frame s) := by
  unfold takeRequest
  split
  · exact agreementKept_ite (receiveFrame_agrees (serveRequest_agrees hv _ n) s)
  · exact AgreementKept.refl s

theorem takeUnknown_agrees (frame : List Byte) (s : State) : AgreementKept s (takeUnknown frame s) := by
  unfold takeUnknown
  split
  · exact agreementKept_ite (receiveFrame_agrees (fun u => (produceReply_agrees _ _ _ u).finished) s)
  · exact AgreementKept.refl s

theorem takeOverlap_agrees (frame : List Byte) (s : State) : AgreementKept s (takeOverlap frame s) := by
  unfold takeOverlap
  split
  · exact agreementKept_ite (receiveFrame_agrees AgreementKept.refl s)
  · exact AgreementKept.refl s

/-- An owner that answers and changes nothing. -/
theorem servesAgreed_reading {serve : List Byte → State → State × Answer} (h : ∀ body s, (serve body s).1 = s) :
    ServesAgreed serve := fun body s => by
  rw [h]
  exact AgreementKept.refl s

theorem serveChain_agrees {serve : ChainNo → List Byte → State → State × Answer} (h : ∀ c, ServesAgreed (serve c)) :
    ServesAgreed (serveChain serve) := by
  intro body s
  unfold serveChain
  split
  · exact h _ body s
  · exact AgreementKept.refl s

theorem serveSetLevel_agrees (c : ChainNo) : ServesAgreed (serveSetLevel c) := fun _ s => commitChain_agrees c _ s

theorem serveChainOn_agrees (c : ChainNo) : ServesAgreed (serveChainOn c) := by
  intro body s
  unfold serveChainOn
  extract_lets r
  split
  · exact AgreementKept.refl s
  · exact commitChain_agrees c _ s

theorem serveChainOff_agrees (c : ChainNo) : ServesAgreed (serveChainOff c) := fun _ s => switchOff_agrees c s

theorem serveClearLockout_agrees (c : ChainNo) : ServesAgreed (serveClearLockout c) :=
  fun _ s => commitChain_agrees c _ s

theorem serveReleaseCapture_agrees : ServesAgreed serveReleaseCapture := by
  intro body s
  unfold serveReleaseCapture
  extract_lets n
  split
  · exact AgreementKept.refl s
  · split
    · exact agreementKept_beside rfl rfl
    · split <;> exact AgreementKept.refl s

theorem serveLoadBegin_agrees : ServesAgreed serveLoadBegin := by
  intro body s
  unfold serveLoadBegin
  split
  · exact AgreementKept.refl s
  · split
    · exact AgreementKept.refl s
    · next hl =>
      refine setLoad_agrees (fun k hk => hl k hk) nofun fun _ k n img t ho => ?_
      cases ho
      omega

/-- A segment stored is one of the eight, so the next expected is at most the eighth. -/
theorem serveLoadSegment_agrees : ServesAgreed serveLoadSegment := by
  intro body s
  unfold serveLoadSegment
  extract_lets i
  split
  · exact AgreementKept.refl s
  · exact AgreementKept.refl s
  · next hl =>
    split
    · next hi =>
      refine setLoad_agrees (opened_not_committing hl) nofun fun _ k n img t ho => ?_
      obtain ⟨he, hlt⟩ := hi
      cases ho
      exact he ▸ hlt
    · exact AgreementKept.refl s

theorem serveLoadEnd_agrees : ServesAgreed serveLoadEnd := by
  intro body s
  unfold serveLoadEnd
  split
  · exact AgreementKept.refl s
  · exact AgreementKept.refl s
  · next hl =>
    split
    · exact AgreementKept.refl s
    · split
      · next hc =>
        split
        · exact setLoad_closed_agrees (opened_not_committing hl)
        · next hv => exact commitImage_agrees (opened_not_committing hl) ⟨hc, hv⟩
      · exact setLoad_closed_agrees (opened_not_committing hl)

theorem serveLoadCancel_agrees : ServesAgreed serveLoadCancel := by
  intro body s
  unfold serveLoadCancel
  split
  · exact AgreementKept.refl s
  · next hl => exact setLoad_closed_agrees fun k hk => hl k hk

/-- A good profile made active is the only new one held, at the store and in every announcement (R159). -/
theorem makeActive_agrees (d : Designation) {p : Profile} {s : State} (hp : ProfilesSafe s → ProfileGood p) :
    AgreementKept s (makeActive d p s) := by
  have hf := makeActive_frame d p s
  generalize makeActive d p s = t at hf
  refine agreementKept_of (by rw [hf]) (by rw [hf]) (by rw [hf]; rfl) (by rw [hf]; exact id) (by rw [hf]; rfl) ?_
  intro hs q hq
  have hadd {l : List Profile} (hl : ∀ x ∈ l, ProfileGood x) : ∀ x ∈ l ++ [p], ProfileGood x := by
    intro x hx
    obtain hx | hx := List.mem_append.mp hx
    · exact hl x hx
    · rw [List.mem_singleton.mp hx]
      exact hp hs
  rw [hf] at hq
  refine hq.imp (hp hs) (fun c => ?_) ⟨hs.site.1, hadd hs.site.2⟩ (hadd hs.fastMute) (hadd hs.tracker)
  simp only [profileOf, inboxOf, announce, deliverAll_chains, Quad.get_map]
  exact ⟨(hs.chains c).1, hadd (hs.chains c).2⟩

theorem persistDirectory_agrees (persist : Bool) (d : Designation) (s : State) :
    AgreementKept s (persistDirectory persist d s) := by
  have hheld (p : Profile) (h : HoldsProfile (persistDirectory persist d s) p) : HoldsProfile s p := by
    rw [persistDirectory_frame] at h
    exact h.of_same s rfl rfl
  cases persist with
  | false => exact AgreementKept.refl s
  | true =>
    have hf := persistDirectory_frame true d s
    generalize persistDirectory true d s = t at hf hheld
    have hn : t.nv = startedNv s.time (latchesOf s) d { s.nv with directoryPending := true } := by
      rw [hf]
      rfl
    exact agreementKept_started (by rw [hf]) (by rw [hf]) (by rw [hf]) hn rfl rfl hheld

theorem acceptActivate_agrees (d : Designation) {p : Profile} (persist : Bool) {s : State}
    (hp : ProfilesSafe s → ProfileGood p) : AgreementKept s (acceptActivate d p persist s).1 :=
  (makeActive_agrees d hp).trans (persistDirectory_agrees persist d _)

theorem serveActivate_agrees : ServesAgreed serveActivate := by
  intro body s
  unfold serveActivate
  extract_lets persist
  split
  · exact AgreementKept.refl s
  · exact acceptActivate_agrees _ _ fun _ => Or.inl rfl
  · next k _ =>
    split
    · exact AgreementKept.refl s
    · next p hk hc =>
      refine acceptActivate_agrees _ _ fun hs => ?_
      obtain ⟨img, himg, hv⟩ := hs.slots k hk
      rw [himg] at hc
      cases hc
      exact Or.inr ⟨img, hv, rfl⟩
    · exact AgreementKept.refl s

theorem serveSetNotices_agrees : ServesAgreed serveSetNotices := fun _ _ => agreementKept_beside rfl rfl

/-! ## Resets and the end of start-up (R161 to R163) -/

theorem slotStateOf_ne_writing (cell : NvCell) : slotStateOf cell ≠ .writing := by
  unfold slotStateOf
  split
  · exact nofun
  · split
    · split <;> exact nofun
    · exact nofun

/-- A cell that reads VALID holds a valid image. -/
theorem imageValid_of_slotStateOf {cell : NvCell} (h : slotStateOf cell = .valid) :
    ∃ img, cell = .bytes img ∧ imageValid img := by
  obtain ⟨img, rfl⟩ := slotStateOf_valid h
  refine ⟨img, rfl, ?_⟩
  simp only [slotStateOf] at h
  split at h
  · next hc =>
    split at h
    · next hv => exact ⟨(Bool.and_eq_true_iff.mp hc).2, hv⟩
    · cases h
  · cases h

/-- The profile start-up chooses is the default or that of a slot it finds VALID (R162). -/
theorem chosenProfile_good (a : NvArray) : ProfileGood (designatedProfile a (chosenDesignation a)) := by
  have h := chosenProfile_cases a
  split at h
  · next k _ =>
    split at h
    · next hv =>
      obtain ⟨-, img, himg, hp⟩ := h
      obtain ⟨img', himg', hval⟩ := imageValid_of_slotStateOf hv
      cases himg.symm.trans himg'
      exact Or.inr ⟨img, hval, hp⟩
    · exact Or.inl h.2
  · exact Or.inl h.2

/-- The blocks that hold or await a profile stand at their start-up values under profile `p`. -/
structure StartedUnder (p : Profile) (s : State) : Prop where
  store    : s.store.active = p
  chains   : ∀ c, ∃ trips latch, s.chains.get c = startChain p c trips latch
  site     : ∃ ilk, s.site = startSite p ilk
  fastMute : ∃ now arcs surges, s.fastMute = startFastMute now p arcs surges
  tracker  : ∃ now fmk, s.tracker = startTracker now p fmk

/-- Blocks at their start-up values hold one profile, and none waits for another. -/
theorem StartedUnder.held_eq {p q : Profile} {s : State} (h : StartedUnder p s) (hq : HoldsProfile s q) : q = p := by
  obtain ⟨hstore, hchains, ⟨ilk, hsite⟩, ⟨now, arcs, surges, hfast⟩, ⟨now', fmk, htrack⟩⟩ := h
  have hchain (c : ChainNo) : profileOf s c = p ∧ (inboxOf s c).activations = [] := by
    obtain ⟨trips, latch, hc⟩ := hchains c
    rw [profileOf, inboxOf, hc]
    exact ⟨rfl, rfl⟩
  cases hq with
  | store => exact hstore
  | chain c => exact (hchain c).1
  | toChain c hm => cases (hchain c).2 ▸ hm
  | site => rw [hsite]; rfl
  | toSite hm => cases hsite ▸ hm
  | toFastMute hm => cases hfast ▸ hm
  | toTracker hm => cases htrack ▸ hm

/-- Blocks at their start-up values under a good profile, with no write, no load and no slot WRITING. -/
theorem agreementKept_start {p : Profile} {source directory : Designation} {slots : Trio SlotState} {s t : State}
    (hp : ProfileGood p) (hst : t.store = startStore p source directory slots) (hn : t.nv = idleNv)
    (hw : ∀ k, slots.get k ≠ .writing)
    (hv : ∀ k, slots.get k = .valid → ∃ img, t.array.slots.get k = .bytes img ∧ imageValid img)
    (hb : StartedUnder p t) : AgreementKept s t where
  store _ := by
    refine storeSafe_free (hn ▸ writesOrdered_idleNv) (by rw [hn]; rfl) ?_ ?_ ?_ <;> rw [hst]
    · exact hw
    · exact nofun
    · exact nofun
  profiles _ _ := by
    refine profilesSafe_of (fun q hq => hb.held_eq hq ▸ hp) ?_ (by rw [hn]; exact nofun) (hn ▸ writesOrdered_idleNv)
    unfold SlotsValid
    rw [hst]
    exact hv

theorem enterReset_agrees (phase : Phase) (s u : State) : AgreementKept u (enterReset phase s) := by
  have hslot (k : Fin 3) : (Trio.fill (SlotState.invalid .crc)).get k = .invalid .crc := Trio.get_fill _ k
  refine agreementKept_start (Or.inl rfl) rfl rfl (fun k hk => ?_) (fun k hk => ?_)
    ⟨rfl, fun c => ⟨_, _, Quad.get_ofFn _ c⟩, ⟨_, rfl⟩, ⟨_, _, _, rfl⟩, _, _, rfl⟩
  · cases (hslot k).symm.trans hk
  · cases (hslot k).symm.trans hk

theorem fallRstN_agrees (s : State) : AgreementKept s (fallRstN s) := by
  unfold fallRstN
  extract_lets s1
  split
  · exact agreementKept_beside rfl rfl
  · exact enterReset_agrees _ _ s

theorem riseRstN_agrees (s : State) : AgreementKept s (riseRstN s) := by
  unfold riseRstN
  extract_lets s1
  split
  · exact enterReset_agrees _ _ s
  · exact agreementKept_beside rfl rfl

theorem startBlocks_agrees (s : State) : AgreementKept s (startBlocks s) := by
  have hslot (k : Fin 3) : (foundSlots s.array).get k = slotStateOf (s.array.slots.get k) := Trio.get_map _ _ k
  refine agreementKept_start (chosenProfile_good s.array) rfl rfl (fun k hk => ?_) (fun k hk => ?_)
    ⟨rfl, fun c => ⟨_, _, Quad.get_ofFn _ c⟩, ⟨_, rfl⟩, ⟨_, _, _, rfl⟩, _, _, rfl⟩
  · exact slotStateOf_ne_writing _ ((hslot k).symm.trans hk)
  · exact imageValid_of_slotStateOf ((hslot k).symm.trans hk)

theorem placeChains_agrees (s : State) : AgreementKept s (placeChains s) := by
  have hp : AgreementKept s (placed s) :=
    agreementKept_same rfl fun c => by simp [placed, profileOf, inboxOf]
  rw [placeChains_eq]
  split
  · exact hp
  · have hf := requestLockoutWrite_frame (placed s)
    have hn := requestLockoutWrite_nv (placed s)
    generalize requestLockoutWrite (placed s) = t at hf hn
    refine hp.trans (agreementKept_started (by rw [hf]) (by rw [hf]) (by rw [hf]) hn rfl rfl fun q hq => ?_)
    rw [hf] at hq
    exact hq.of_same (placed s) rfl rfl

theorem endStartUp_agrees (s : State) : AgreementKept s (endStartUp s) := by
  unfold endStartUp
  split
  · exact agreementKept_ite ((startBlocks_agrees s).trans (placeChains_agrees _)).finished
  · exact AgreementKept.refl s

/-! ## Every command and every step -/

/-- A command whose event may come in every phase. -/
theorem AgreementKept.later {f : State → State} (hf : ∀ s, AgreementKept s (f s)) (dt : Nat) (s : State) :
    AgreementKept s (f (elapse dt s)) := (elapse_agrees dt s).trans (hf _)

/-- A command taken only while the part runs. -/
theorem AgreementKept.runs {f : State → State} (hf : ∀ s, AgreementKept s (f s)) (dt : Nat) (s : State) :
    AgreementKept s (whileRunning f (elapse dt s)) := by
  unfold whileRunning
  split
  · exact AgreementKept.later hf dt s
  · exact elapse_agrees dt s

/-- A request. -/
theorem AgreementKept.takes {serve : List Byte → State → State × Answer} (hv : ServesAgreed serve) (kind : Byte)
    (n : Nat) (frame : List Byte) (dt : Nat) (s : State) :
    AgreementKept s (whileRunning (takeRequest kind n serve frame) (elapse dt s)) :=
  AgreementKept.runs (takeRequest_agrees hv kind n frame) dt s

/-- Every command has an effect, and it keeps the agreement. -/
theorem exec_agrees (i : Instr) (s : State) : ∃ t, exec i s = .next t ∧ AgreementKept s t := by
  cases i with
  | powerOnReset dt bsel1 bsel0 => exact ⟨_, rfl, enterReset_agrees _ _ s⟩
  | warmReset dt cause =>
    cases cause with
    | rstLow => exact ⟨_, rfl, .later fallRstN_agrees dt s⟩
    | requested => exact ⟨_, rfl, .later (fun u => agreementKept_ite (enterReset_agrees _ u u)) dt s⟩
  | startUpEnd dt => exact ⟨_, rfl, .later endStartUp_agrees dt s⟩
  | sampleFrame dt header fields check => exact ⟨_, rfl, .runs (sampleFrameEvent_agrees _) dt s⟩
  | groupDiscard dt header => exact ⟨_, rfl, .runs (discardGroup_agrees _) dt s⟩
  | shortFrameSync x => exact ⟨_, rfl, .runs (restartFrame_agrees _) x.dt s⟩
  | shortFrameTimeout x => exact ⟨_, rfl, .runs (timeOutFrame_agrees _ _) x.dt s⟩
  | staleDeadline dt g => exact ⟨_, rfl, .runs (reachStale_agrees g) dt s⟩
  | lostDeadline dt g => exact ⟨_, rfl, .runs (reachLost_agrees g) dt s⟩
  | flowLineEdge dt c high => exact ⟨_, rfl, .later (edgeFlow_agrees c high) dt s⟩
  | flowPulseQualify dt c => exact ⟨_, rfl, .runs (qualifyFlow_agrees c) dt s⟩
  | flowFilterRearm dt c => exact ⟨_, rfl, .runs (rearmFlow_agrees c) dt s⟩
  | gateEnd dt => exact ⟨_, rfl, .runs endGate_agrees dt s⟩
  | flowGateResult dt c => exact ⟨_, rfl, .runs (flowResultEvent_agrees c) dt s⟩
  | chainEvaluation dt c => exact ⟨_, rfl, .runs (evaluationEvent_agrees c) dt s⟩
  | chainFreshnessChange dt c => exact ⟨_, rfl, .runs (freshnessEvent_agrees c) dt s⟩
  | siteEvaluation dt => exact ⟨_, rfl, .runs siteEvaluationEvent_agrees dt s⟩
  | siteStale dt => exact ⟨_, rfl, .runs siteStaleEvent_agrees dt s⟩
  | siteLost dt => exact ⟨_, rfl, .runs siteLostEvent_agrees dt s⟩
  | siteCeilingChange dt c => exact ⟨_, rfl, .runs (ceilingEvent_agrees c) dt s⟩
  | siteTripEvent dt c => exact ⟨_, rfl, .runs (siteTripTaken_agrees c) dt s⟩
  | siteFreshnessLoss dt c => exact ⟨_, rfl, .runs (siteLossTaken_agrees c) dt s⟩
  | interlockLineEdge dt high => exact ⟨_, rfl, .later (edgeInterlock_agrees high) dt s⟩
  | interlockOpening dt => exact ⟨_, rfl, .runs openInterlock_agrees dt s⟩
  | interlockClosing dt => exact ⟨_, rfl, .runs closeInterlock_agrees dt s⟩
  | chainInterlockOpening dt c => exact ⟨_, rfl, .runs (openingEvent_agrees c) dt s⟩
  | chainInterlockClosing dt c => exact ⟨_, rfl, .runs (closingEvent_agrees c) dt s⟩
  | fastLineEdge dt line high => exact ⟨_, rfl, .later (edgeFast_agrees line high) dt s⟩
  | fastLineQualify dt line => exact ⟨_, rfl, .runs (qualifyFast_agrees line) dt s⟩
  | fastFilterRearm dt line => exact ⟨_, rfl, .runs (rearmFast_agrees line) dt s⟩
  | qualifiedArcPulse dt c => exact ⟨_, rfl, .runs (arcEvent_agrees c) dt s⟩
  | qualifiedSurge dt c => exact ⟨_, rfl, .runs (surgeEvent_agrees c) dt s⟩
  | windowExpiry dt c => exact ⟨_, rfl, .runs (expireWindow_agrees c) dt s⟩
  | dwellEnd dt c => exact ⟨_, rfl, .runs (endDwell_agrees c) dt s⟩
  | tripListEntryExpiry dt c => exact ⟨_, rfl, .runs (expireTrips_agrees c) dt s⟩
  | runOnExpiry dt c => exact ⟨_, rfl, .runs (expireRunOn_agrees c) dt s⟩
  | chainFrameTick dt c => exact ⟨_, rfl, .runs (tickEvent_agrees c) dt s⟩
  | captureRecordJoin dt => exact ⟨_, rfl, .runs joinEvent_agrees dt s⟩
  | markerLineEdge dt high => exact ⟨_, rfl, .later (edgeMarker_agrees high) dt s⟩
  | markerFilterRearm dt => exact ⟨_, rfl, .runs rearmMarker_agrees dt s⟩
  | marker dt => exact ⟨_, rfl, .runs markerEvent_agrees dt s⟩
  | fallbackTick dt => exact ⟨_, rfl, .runs fallbackEvent_agrees dt s⟩
  | previousMarkerDrop dt => exact ⟨_, rfl, .runs dropPrevious_agrees dt s⟩
  | windowClose dt => exact ⟨_, rfl, .runs windowEvent_agrees dt s⟩
  | levelTransferComplete dt => exact ⟨_, rfl, .runs transferEvent_agrees dt s⟩
  | chainProfileActivation dt c => exact ⟨_, rfl, .runs (chainActivationEvent_agrees c) dt s⟩
  | siteProfileActivation dt => exact ⟨_, rfl, .runs siteActivationEvent_agrees dt s⟩
  | trackerProfileActivation dt => exact ⟨_, rfl, .runs trackerActivationEvent_agrees dt s⟩
  | fastMuteProfileActivation dt => exact ⟨_, rfl, .runs fastMuteActivationEvent_agrees dt s⟩
  | loadTimeout dt => exact ⟨_, rfl, .runs loadTimerEvent_agrees dt s⟩
  | lockoutRecordWriteComplete dt => exact ⟨_, rfl, .runs lockoutWriteEvent_agrees dt s⟩
  | directoryWriteComplete dt => exact ⟨_, rfl, .runs directoryWriteEvent_agrees dt s⟩
  | slotWriteComplete dt => exact ⟨_, rfl, .runs slotWriteEvent_agrees dt s⟩
  | framingError x => exact ⟨_, rfl, .runs (framingErrorEvent_agrees _) x.dt s⟩
  | controlFrameDiscard x => exact ⟨_, rfl, .runs (discardFrame_agrees _) x.dt s⟩
  | controlFrameGapTimeout x => exact ⟨_, rfl, .runs (gapEvent_agrees _ _) x.dt s⟩
  | unknownKind dt head body crc => exact ⟨_, rfl, .runs (takeUnknown_agrees _) dt s⟩
  | overlapFrame dt head body crc => exact ⟨_, rfl, .runs (takeOverlap_agrees _) dt s⟩
  | identify dt inner crc => exact ⟨_, rfl, .takes (servesAgreed_reading fun _ _ => rfl) _ _ _ dt s⟩
  | readChain dt inner crc =>
    exact ⟨_, rfl, .takes (serveChain_agrees fun _ => servesAgreed_reading fun _ _ => rfl) _ _ _ dt s⟩
  | readSite dt inner crc => exact ⟨_, rfl, .takes (servesAgreed_reading fun _ _ => rfl) _ _ _ dt s⟩
  | readTiming dt inner crc => exact ⟨_, rfl, .takes (servesAgreed_reading fun _ _ => rfl) _ _ _ dt s⟩
  | readTrips dt inner crc =>
    exact ⟨_, rfl, .takes (serveChain_agrees fun _ => servesAgreed_reading fun _ _ => rfl) _ _ _ dt s⟩
  | readCapture dt inner crc => exact ⟨_, rfl, .takes (servesAgreed_reading fun _ _ => rfl) _ _ _ dt s⟩
  | readStore dt inner crc => exact ⟨_, rfl, .takes (servesAgreed_reading fun _ _ => rfl) _ _ _ dt s⟩
  | setLevel dt inner crc => exact ⟨_, rfl, .takes (serveChain_agrees serveSetLevel_agrees) _ _ _ dt s⟩
  | chainOn dt inner crc => exact ⟨_, rfl, .takes (serveChain_agrees serveChainOn_agrees) _ _ _ dt s⟩
  | chainOff dt inner crc => exact ⟨_, rfl, .takes (serveChain_agrees serveChainOff_agrees) _ _ _ dt s⟩
  | clearLockout dt inner crc => exact ⟨_, rfl, .takes (serveChain_agrees serveClearLockout_agrees) _ _ _ dt s⟩
  | releaseCapture dt inner crc => exact ⟨_, rfl, .takes serveReleaseCapture_agrees _ _ _ dt s⟩
  | loadBegin dt inner crc => exact ⟨_, rfl, .takes serveLoadBegin_agrees _ _ _ dt s⟩
  | loadSegment dt inner crc => exact ⟨_, rfl, .takes serveLoadSegment_agrees _ _ _ dt s⟩
  | loadEnd dt inner crc => exact ⟨_, rfl, .takes serveLoadEnd_agrees _ _ _ dt s⟩
  | loadCancel dt inner crc => exact ⟨_, rfl, .takes serveLoadCancel_agrees _ _ _ dt s⟩
  | activate dt inner crc => exact ⟨_, rfl, .takes serveActivate_agrees _ _ _ dt s⟩
  | setNotices dt inner crc => exact ⟨_, rfl, .takes serveSetNotices_agrees _ _ _ dt s⟩
  | reset dt inner crc => exact ⟨_, rfl, .takes (servesAgreed_reading fun _ _ => rfl) _ _ _ dt s⟩
  | transmitComplete dt => exact ⟨_, rfl, .runs transmitEvent_agrees dt s⟩
  | syncWordMatch x => exact ⟨_, rfl, .runs (matchSync_agrees _) x.dt s⟩
  | controlStartByte x => exact ⟨_, rfl, .runs (startFrame_agrees _) x.dt s⟩
  | supplyBelowThreshold dt => exact ⟨_, rfl, enterReset_agrees _ _ s⟩
  | rstNRise dt => exact ⟨_, rfl, .later riseRstN_agrees dt s⟩

theorem step_agrees {s t : State} (ht : step s = .next t) : AgreementKept s t := by
  unfold step at ht
  split at ht
  · cases ht
    exact AgreementKept.refl s
  · next c rest _ =>
    have hq : AgreementKept s (s.withPending rest) := agreementKept_beside rfl rfl
    obtain ⟨u, hu, hk⟩ := exec_agrees c (s.withPending rest)
    cases hu.symm.trans ht
    exact hq.trans hk

/-- Settles O59: the load, the slots and the slot write held move together, at the end of a load, at the write's end and
at a reset; a profile that becomes active is the default or that of a VALID slot, and a slot becomes VALID with an image
that LOAD_END or start-up has validated. -/
theorem stepKeepsStoreAndProfiles : Obligations.StepKeepsStoreAndProfiles :=
  fun _ _ h ht => ⟨(step_agrees ht).store h, (step_agrees ht).profiles h⟩

end Sys2Proof.Machine
end

section
/-! PROOFS. The profile load (R155 to R158, R161): what each of its four requests answers in each state of the load, and
the load timer. -/

namespace Sys2Proof.Machine

section Load

variable {dt : Nat} {tag b i : Byte} {k : Fin 3} {n timer : Nat} {img data : List Byte} {s : State}

/-! ## The commands -/

theorem exec_loadTimeout (hp : s.phase = .running) (hl : s.store.load = .opened k n img timer)
    (ht : timer + 10000000 ≤ s.time + dt) :
    exec (.loadTimeout dt) s
      = .next { s with time := s.time + dt, store := { s.store with load := .closed } } := by
  have hd : timer + loadMicros ≤ (elapse dt s).time := ht
  show Host.Outcome.next (whileRunning _ _) = _
  rw [whileRunning_running hp]
  simp only [loadTimerEvent, elapse_store, hl, if_pos hd]
  rfl

theorem exec_loadBegin (h : CanTake s) :
    exec (requestOf .loadBegin dt ⟨0x20, tag, [b]⟩) s
      = .next (finish (produceReply 0x20 tag (serveLoadBegin [b] (requestState dt 0x20 tag s)).2
          (serveLoadBegin [b] (requestState dt 0x20 tag s)).1)) :=
  congrArg Host.Outcome.next (takeRequest_taken h (by simp) rfl)

theorem exec_loadSegment (h : CanTake s) (hd : data.length = 32) :
    exec (requestOf .loadSegment dt ⟨0x21, tag, i :: data⟩) s
      = .next (finish (produceReply 0x21 tag (serveLoadSegment (i :: data) (requestState dt 0x21 tag s)).2
          (serveLoadSegment (i :: data) (requestState dt 0x21 tag s)).1)) :=
  congrArg Host.Outcome.next (takeRequest_taken h (by simp [hd]) (by simp [hd]))

theorem exec_loadEnd (h : CanTake s) :
    exec (requestOf .loadEnd dt ⟨0x22, tag, []⟩) s
      = .next (finish (produceReply 0x22 tag (serveLoadEnd [] (requestState dt 0x22 tag s)).2
          (serveLoadEnd [] (requestState dt 0x22 tag s)).1)) :=
  congrArg Host.Outcome.next (takeRequest_taken h (by simp) rfl)

theorem exec_loadCancel (h : CanTake s) :
    exec (requestOf .loadCancel dt ⟨0x23, tag, []⟩) s
      = .next (finish (produceReply 0x23 tag (serveLoadCancel [] (requestState dt 0x23 tag s)).2
          (serveLoadCancel [] (requestState dt 0x23 tag s)).1)) :=
  congrArg Host.Outcome.next (takeRequest_taken h (by simp) rfl)

/-! ## LOAD_BEGIN (R156) -/

theorem serveLoadBegin_committing (hb : b.toNat = k.val) {j : Fin 3} (hl : s.store.load = .committing j) :
    serveLoadBegin [b] s = (s, .refuse .busy []) := by
  have hk : slotOf (byteAt [b] 0) = some k := slotOf_eq hb
  simp only [serveLoadBegin, hk, hl]

theorem serveLoadBegin_opens (hb : b.toNat = k.val) (hl : ∀ j, s.store.load ≠ .committing j) :
    serveLoadBegin [b] s = (setLoad (.opened k 0 (List.replicate 256 0) s.time) s, .accept [b, 0x00]) := by
  have hk : slotOf (byteAt [b] 0) = some k := slotOf_eq hb
  have hbyte : bytes8 k.val = [b] := by simp [bytes8, ← hb]
  unfold serveLoadBegin
  rw [hk]
  dsimp only
  split
  · next hc => exact absurd hc (hl _)
  · rw [hbyte]
    rfl

theorem serveLoadBegin_unnamed (hb : 3 ≤ b.toNat) : serveLoadBegin [b] s = (s, .refuse .designation [b]) := by
  have hk : slotOf (byteAt [b] 0) = none := dif_neg (Nat.not_lt.mpr hb)
  simp only [serveLoadBegin, hk]
  rfl

/-! ## LOAD_SEGMENT (R157) -/

theorem serveLoadSegment_closed (hl : s.store.load = .closed) :
    serveLoadSegment (i :: data) s = (s, .refuse .noLoad []) := by
  simp only [serveLoadSegment, hl]

theorem serveLoadSegment_committing (hl : s.store.load = .committing k) :
    serveLoadSegment (i :: data) s = (s, .refuse .busy []) := by
  simp only [serveLoadSegment, hl]

theorem serveLoadSegment_stores (hl : s.store.load = .opened k n img timer) (hi : i.toNat = n) (hn : n < 8) :
    serveLoadSegment (i :: data) s
      = (setLoad (.opened k (n + 1) (img.take (32 * n) ++ data ++ img.drop (32 * n + 32)) s.time) s,
          .accept [BitVec.ofNat 8 (n + 1)]) := by
  have hu : u8At (i :: data) 0 = n := hi
  have hc : n < segmentCount := hn
  simp only [serveLoadSegment, hl, hu, true_and, if_pos hc]
  rfl

theorem serveLoadSegment_sequence (hl : s.store.load = .opened k n img timer) (hi : i.toNat ≠ n ∨ 8 ≤ n) :
    serveLoadSegment (i :: data) s = (s, .refuse .sequence [BitVec.ofNat 8 n]) := by
  have hc : ¬ (u8At (i :: data) 0 = n ∧ u8At (i :: data) 0 < segmentCount) := by
    rintro ⟨he, hlt⟩
    obtain hne | hle := hi
    · exact hne he
    · rw [he] at hlt
      exact absurd hlt (Nat.not_lt.mpr hle)
  simp only [serveLoadSegment, hl, if_neg hc]
  rfl

/-! ## LOAD_END (R158) -/

theorem serveLoadEnd_closed (hl : s.store.load = .closed) : serveLoadEnd [] s = (s, .refuse .noLoad []) := by
  simp only [serveLoadEnd, hl]

theorem serveLoadEnd_committing (hl : s.store.load = .committing k) :
    serveLoadEnd [] s = (s, .refuse .busy []) := by
  simp only [serveLoadEnd, hl]

theorem serveLoadEnd_early (hl : s.store.load = .opened k n img timer) (hn : n < 8) :
    serveLoadEnd [] s = (s, .refuse .sequence [BitVec.ofNat 8 n]) := by
  have hc : n < segmentCount := hn
  simp only [serveLoadEnd, hl, if_pos hc]
  rfl

section Complete

variable (hl : s.store.load = .opened k n img timer) (hn : 8 ≤ n)
include hl hn

theorem serveLoadEnd_badCrc (hcrc : imageCrcGood img = false) :
    serveLoadEnd [] s = (setLoad .closed s, .refuse .checkFailed []) := by
  have hc : ¬ n < segmentCount := Nat.not_lt.mpr hn
  simp only [serveLoadEnd, hl, if_neg hc, hcrc]
  rfl

theorem serveLoadEnd_badField {f : Nat} (hcrc : imageCrcGood img = true) (hf : failingField img = some f) :
    serveLoadEnd [] s = (setLoad .closed s, .refuse .invalidField [BitVec.ofNat 8 f]) := by
  have hc : ¬ n < segmentCount := Nat.not_lt.mpr hn
  simp only [serveLoadEnd, hl, if_neg hc, hcrc, hf, if_true]
  rfl

theorem serveLoadEnd_commits (hcrc : imageCrcGood img = true) (hf : failingField img = none) :
    serveLoadEnd [] s = (commitImage k img s, .hold) := by
  have hc : ¬ n < segmentCount := Nat.not_lt.mpr hn
  simp only [serveLoadEnd, hl, if_neg hc, hcrc, hf, if_true]

end Complete

/-! ## LOAD_CANCEL (R156) -/

theorem serveLoadCancel_committing (hl : s.store.load = .committing k) :
    serveLoadCancel [] s = (s, .refuse .busy []) := by
  simp only [serveLoadCancel, hl]

theorem serveLoadCancel_closes (hl : ∀ j, s.store.load ≠ .committing j) :
    serveLoadCancel [] s = (setLoad .closed s, .accept [0x00]) := by
  unfold serveLoadCancel
  split
  · next hc => exact absurd hc (hl _)
  · rfl

/-! ## What the answers leave -/

/-- An answer that accepts or refuses with the load replaced and nothing else changed. -/
theorem answer_setLoad {kind : Byte} {a : Answer} {m : Message} {l : Load} (hp : s.phase = .running)
    (ha : ∀ u, produceReply kind tag a u = { u with link := { u.link with reply := some m } }) :
    LinkFrame dt { s with store := { s.store with load := l } }
        (finish (produceReply kind tag a (setLoad l (requestState dt kind tag s))))
      ∧ RequestTaken kind tag m s.link.noticePending s
          (finish (produceReply kind tag a (setLoad l (requestState dt kind tag s)))) :=
  answer_unchanged (s := { s with store := { s.store with load := l } }) hp ha

/-- A committed image's LOAD_END is held; its write joins the pending set and starts where none waits or runs (R158,
R161). -/
theorem commitImage_held (hp : s.phase = .running) {t : State}
    (ht : t = finish (commitImage k img (requestState dt 0x22 tag s))) :
    RequestHeld 0x22 tag s t
      ∧ t.store = { s.store with load := .committing k, slots := s.store.slots.set k .writing }
      ∧ t.nv = startedNv (s.time + dt) (latchesOf t) s.store.directory { s.nv with slotPending := some ⟨k, img⟩ }
      ∧ t = { s with time := s.time + dt, store := t.store, nv := t.nv, lines := t.lines, link := t.link } := by
  have hf := commitImage_frame k img (requestState dt 0x22 tag s)
  have hn := commitImage_nv k img (requestState dt 0x22 tag s)
  generalize commitImage k img (requestState dt 0x22 tag s) = u at hf hn ht
  have hrun : u.phase = .running := by
    rw [hf]
    exact hp
  have hlink : u.link = { s.link with receiver := .hunting, inHand := some ⟨0x22, tag⟩ } := by
    rw [hf]
    rfl
  have hlatches : latchesOf t = latchesOf s := by
    rw [ht, finish_latches, hf]
    rfl
  refine ⟨?_, ?_, ?_, ?_⟩
  · unfold RequestHeld
    rw [ht, finish_link u hrun, hlink]
  · rw [ht, finish_store, hf]
    rfl
  · rw [hlatches, ht, finish_nv, hn]
    rfl
  · rw [ht, finish_frame]
    generalize linesOf u = lines
    rw [hf]
    rfl

end Load

/-- Settles O46: each request by the state of the load, LOAD_END in the order of R158's table. -/
theorem profileLoadRunsItsTable : Obligations.ProfileLoadRunsItsTable := by
  refine ⟨fun dt timer k n img s hp hl ht => exec_loadTimeout hp hl ht,
    fun dt tag k k' b i data s hs hl hb hd => ?committing, fun dt tag s hs hl => ?free⟩
  case committing =>
    refine ⟨⟨_, exec_loadBegin hs, ?_⟩, ⟨_, exec_loadSegment hs hd, ?_⟩, ⟨_, exec_loadEnd hs, ?_⟩,
      ⟨_, exec_loadCancel hs, ?_⟩⟩
    · rw [serveLoadBegin_committing hb (s := requestState dt 0x20 tag s) hl]
      exact answer_unchanged hs.running fun _ => rfl
    · rw [serveLoadSegment_committing (s := requestState dt 0x21 tag s) hl]
      exact answer_unchanged hs.running fun _ => rfl
    · rw [serveLoadEnd_committing (s := requestState dt 0x22 tag s) hl]
      exact answer_unchanged hs.running fun _ => rfl
    · rw [serveLoadCancel_committing (s := requestState dt 0x23 tag s) hl]
      exact answer_unchanged hs.running fun _ => rfl
  case free =>
    refine ⟨fun b k hb => ⟨_, exec_loadBegin hs, ?begins⟩, fun b hb => ⟨_, exec_loadBegin hs, ?unnamed⟩,
      fun i data hd => ⟨_, exec_loadSegment hs hd, fun hc => ?segmentClosed, fun k n img timer ho =>
        ⟨fun hi hn => ?stores, fun hi => ?sequence⟩⟩,
      ⟨_, exec_loadEnd hs, fun hc => ?endClosed, fun k n img timer ho => ⟨fun hn => ?early, fun hn hcrc => ?badCrc,
        fun f hn hcrc hf => ?badField, fun hn hcrc hf => ?commits⟩⟩,
      ⟨_, exec_loadCancel hs, ?cancels⟩⟩
    case begins =>
      rw [serveLoadBegin_opens hb (s := requestState dt 0x20 tag s) hl]
      exact answer_setLoad hs.running fun _ => rfl
    case unnamed =>
      rw [serveLoadBegin_unnamed (s := requestState dt 0x20 tag s) hb]
      exact answer_unchanged hs.running fun _ => rfl
    case segmentClosed =>
      rw [serveLoadSegment_closed (s := requestState dt 0x21 tag s) hc]
      exact answer_unchanged hs.running fun _ => rfl
    case stores =>
      rw [serveLoadSegment_stores (s := requestState dt 0x21 tag s) ho hi hn]
      exact answer_setLoad hs.running fun _ => rfl
    case sequence =>
      rw [serveLoadSegment_sequence (s := requestState dt 0x21 tag s) ho hi]
      exact answer_unchanged hs.running fun _ => rfl
    case endClosed =>
      rw [serveLoadEnd_closed (s := requestState dt 0x22 tag s) hc]
      exact answer_unchanged hs.running fun _ => rfl
    case early =>
      rw [serveLoadEnd_early (s := requestState dt 0x22 tag s) ho hn]
      exact answer_unchanged hs.running fun _ => rfl
    case badCrc =>
      rw [serveLoadEnd_badCrc (s := requestState dt 0x22 tag s) ho hn hcrc]
      exact answer_setLoad hs.running fun _ => rfl
    case badField =>
      rw [serveLoadEnd_badField (s := requestState dt 0x22 tag s) ho hn hcrc hf]
      exact answer_setLoad hs.running fun _ => rfl
    case commits =>
      rw [serveLoadEnd_commits (s := requestState dt 0x22 tag s) ho hn hcrc hf]
      exact commitImage_held hs.running rfl
    case cancels =>
      rw [serveLoadCancel_closes (s := requestState dt 0x23 tag s) hl]
      exact answer_setLoad hs.running fun _ => rfl

end Sys2Proof.Machine
end

section
/-! PROOFS. Validation (R152, Tables 9-1 and 9-2): the tests of the fields are the rows of the tables, the failing field
is the first of them that fails, and what follows for a slot's state (R153, R155). -/

namespace Sys2Proof.Machine

/-! ## The first of numbered tests that fails -/

section FirstFailing

variable {P : Nat → Prop} {l : List (Nat × Bool)} {a len : Nat}

/-- Tests numbered upwards from `a`: the first that fails is the least number whose test does. -/
theorem find_failing_iff (hl : l.map Prod.fst = List.range' a len) (hp : ∀ t ∈ l, t.2 = true ↔ P t.1) (n : Nat) :
    (l.find? fun t => !t.2).map Prod.fst = some n ↔
      a ≤ n ∧ n < a + len ∧ ¬ P n ∧ ∀ m, a ≤ m → m < n → P m := by
  induction l generalizing a len with
  | nil =>
    have hz : len = 0 := by simpa using congrArg List.length hl.symm
    constructor
    · exact nofun
    · rintro ⟨h1, h2, -, -⟩
      omega
  | cons t l ih =>
    cases len with
    | zero => cases hl
    | succ len =>
      rw [List.range'_succ, List.map_cons, List.cons.injEq] at hl
      obtain ⟨ht, hl⟩ := hl
      have hP : t.2 = true ↔ P a := by
        rw [← ht]
        exact hp t List.mem_cons_self
      cases hb : t.2 with
      | false =>
        have hna : ¬ P a := fun h => Bool.false_ne_true (hb.symm.trans (hP.mpr h))
        rw [List.find?_cons_of_pos (by simp [hb]), Option.map_some, ht, Option.some.injEq]
        constructor
        · rintro rfl
          exact ⟨Nat.le_refl _, by omega, hna, fun m h1 h2 => absurd h1 (by omega)⟩
        · rintro ⟨h1, -, -, hall⟩
          by_contra hne
          exact hna (hall a (Nat.le_refl _) (by omega))
      | true =>
        have ha : P a := hP.mp hb
        rw [List.find?_cons_of_neg (by simp [hb]), ih hl fun u hu => hp u (List.mem_cons_of_mem t hu)]
        constructor
        · rintro ⟨h1, h2, hn, hall⟩
          refine ⟨by omega, by omega, hn, fun m hm hlt => ?_⟩
          obtain rfl | hm := Nat.eq_or_lt_of_le hm
          · exact ha
          · exact hall m hm hlt
        · rintro ⟨h1, h2, hn, hall⟩
          have hne : a ≠ n := fun he => hn (he ▸ ha)
          exact ⟨by omega, by omega, hn, fun m hm => hall m (by omega)⟩

/-- Tests numbered upwards from `a` all pass where every number's test does. -/
theorem all_numbered_iff (hl : l.map Prod.fst = List.range' a len) (hp : ∀ t ∈ l, t.2 = true ↔ P t.1) :
    (∀ t ∈ l, t.2 = true) ↔ ∀ n, a ≤ n → n < a + len → P n := by
  constructor
  · intro h n h1 h2
    have hn : n ∈ l.map Prod.fst := by
      rw [hl]
      exact List.mem_range'_1.mpr ⟨h1, h2⟩
    obtain ⟨t, ht, rfl⟩ := List.mem_map.mp hn
    exact (hp t ht).mp (h t ht)
  · intro h t ht
    have hn : t.1 ∈ List.range' a len := hl ▸ List.mem_map_of_mem ht
    obtain ⟨h1, h2⟩ := List.mem_range'_1.mp hn
    exact (hp t ht).mpr (h _ h1 h2)

end FirstFailing

/-! ## Fields 2 to 72: the rows of Table 9-1 and the relations of Table 9-2 -/

/-- A row of Table 9-1: number, offset, form and range. -/
abbrev FieldRow := Nat × Nat × FieldForm × Int × Int

/-- The relations charged to a field, as the tests of a profile have them (Table 9-2). -/
def relationTest (p : Profile) (n : Nat) : Bool :=
  match n with
  | 5 => decide (p.rs < p.rt)
  | 11 => decide (p.e1 + p.h < p.e2) && decide (p.e2 + p.h < p.e3)
  | 19 => decide (p.e3 + p.h ≤ p.ttrip)
  | 20 => decide (p.trestart < p.ttrip)
  | 25 => decide (p.rsSite < p.rtSite)
  | 28 => decide (p.jstart < p.jtrip)
  | 33 => decide (p.ts < p.tm)
  | _ => true

/-- A field as the profile of an image reads it. -/
def fieldRead (img : List Byte) (offset : Nat) (form : FieldForm) : Int :=
  match form with
  | .byte => u8At img offset
  | .word => u16At img offset
  | .signed => s16At img offset

/-- A row's field lies in its range. -/
def rangeTest (img : List Byte) (row : FieldRow) : Bool :=
  within row.2.2.2.1 row.2.2.2.2 (fieldRead img row.2.1 row.2.2.1)

/-- The test of a row's field in an image: its range, and the relations charged to it. -/
def rowTest (img : List Byte) (row : FieldRow) : Nat × Bool :=
  (row.1, rangeTest img row && relationTest (profileOfImage img) row.1)

/-- Two's complement by the high byte's top bit is two's complement of the word. -/
theorem signedValue_eq (img : List Byte) (k : Nat) : fieldValue img k .signed = s16At img k := by
  have hlo : (byteAt img (k + 1)).toNat < 256 := (byteAt img (k + 1)).isLt
  have hu : u16At img k = 256 * (byteAt img k).toNat + (byteAt img (k + 1)).toNat := rfl
  simp only [fieldValue, s16At, signed16]
  split
  case isTrue h => rw [if_pos (by omega), hu]; norm_cast
  case isFalse h => rw [if_neg (by omega), hu]; norm_cast

/-- The value that the statement reads is the one the profile holds. -/
theorem fieldValue_eq (img : List Byte) (k : Nat) (form : FieldForm) :
    fieldValue img k form = fieldRead img k form := by
  cases form with
  | byte => rfl
  | word => exact (Nat.cast_add _ _).symm
  | signed => exact signedValue_eq img k

theorem levelOk_eq (n : Nat) : levelOk n = within 0 1000 n := by simp [levelOk, within]

theorem nibbleOk_eq (b : Byte) : decide (b.toNat ≤ 0x0F) = within 0 15 b.toNat := by simp [within]

/-- Fields 2 to 35 are tested as their rows say. -/
theorem profileTestsLow_eq (img : List Byte) :
    profileTestsLow (profileOfImage img)
      = (1, (img.take 12).all fun b => decide (0x20 ≤ b.toNat) && decide (b.toNat ≤ 0x7E))
          :: fieldRowsLow.map (rowTest img) := by
  simp only [fieldRowsLow, List.map_cons, List.map_nil, rowTest, relationTest, Bool.and_true, profileTestsLow,
    levelOk_eq]
  rfl

/-- Table 9-2 charges no relation to a field from 34 on. -/
theorem relationTest_high (p : Profile) {n : Nat} (h : 34 ≤ n) : relationTest p n = true := by
  unfold relationTest
  split
  case h_8 => rfl
  all_goals omega

/-- The rows of a dwell class's time and ticks (Table 9-1). -/
def dwellRows (k : Nat) : List FieldRow :=
  [(36 + 2 * k, 75 + 3 * k, .word, 1, 6000), (37 + 2 * k, 77 + 3 * k, .byte, 0, 255)]

/-- Fields 36 to 72 are tested as their rows say, the dwell classes one after another. -/
theorem profileTestsHigh_eq (img : List Byte) :
    profileTestsHigh (profileOfImage img)
      = ((List.range 6).flatMap dwellRows ++ fieldRowsHigh.drop 12).map fun row => (row.1, rangeTest img row) := by
  simp only [profileTestsHigh, levelOk_eq, nibbleOk_eq]
  rfl

theorem dwellRows_mem : ∀ k ∈ List.range 6, ∀ row ∈ dwellRows k, row ∈ fieldRowsHigh := by decide

theorem number_of_row : ∀ row ∈ fieldRowsLow ++ fieldRowsHigh, 2 ≤ row.1 ∧ row.1 ≤ 72 := by decide

theorem number_of_highRow : ∀ row ∈ fieldRowsHigh, 34 ≤ row.1 := by decide

/-- No field has two rows. -/
theorem rows_nodup : ((fieldRowsLow ++ fieldRowsHigh).map Prod.fst).Nodup := by decide

/-- The relations a profile is tested for are those of the image it was read from. -/
theorem relationTest_iff (img : List Byte) (n : Nat) :
    relationTest (profileOfImage img) n = true ↔ relationsHold img n := by
  unfold relationTest relationsHold
  split <;> simp only [Bool.and_eq_true, decide_eq_true_eq, fieldValue_eq, fieldRead, Nat.cast_lt] <;> rfl

/-- A field other than the name and the fill passes by its rows and its relations. -/
theorem fieldPasses_iff (img : List Byte) {n : Nat} (h1 : n ≠ 1) (h73 : n ≠ 73) :
    FieldPasses img n ↔ (∀ row ∈ fieldRowsLow ++ fieldRowsHigh, row.1 = n → rangeTest img row = true)
      ∧ relationsHold img n := by
  have hrange (offset form lo hi) : rangeTest img (n, offset, form, lo, hi) = true ↔
      lo ≤ fieldValue img offset form ∧ fieldValue img offset form ≤ hi := by
    simp [rangeTest, within, fieldValue_eq]
  unfold FieldPasses
  split
  · exact absurd rfl h1
  · exact absurd rfl h73
  · refine and_congr_left fun _ => ⟨?_, ?_⟩
    · rintro h ⟨_, offset, form, lo, hi⟩ hrow rfl
      exact (hrange offset form lo hi).mpr (h offset form lo hi hrow)
    · exact fun h offset form lo hi hrow => (hrange offset form lo hi).mp (h _ hrow rfl)

/-- The test of a row decides its field. -/
theorem rowTest_iff (img : List Byte) {row : FieldRow} (h : row ∈ fieldRowsLow ++ fieldRowsHigh) :
    (rowTest img row).2 = true ↔ FieldPasses img row.1 := by
  obtain ⟨hlow, hhigh⟩ := number_of_row row h
  have hown : (∀ r ∈ fieldRowsLow ++ fieldRowsHigh, r.1 = row.1 → rangeTest img r = true) ↔
      rangeTest img row = true := by
    constructor
    · exact fun hall => hall row h rfl
    · intro hrow r hr he
      rwa [List.inj_on_of_nodup_map rows_nodup hr h he]
  rw [fieldPasses_iff img (by omega) (by omega), hown, ← relationTest_iff]
  exact Bool.and_eq_true_iff

/-! ## Fields 1 and 73: the name and the fill -/

/-- A test of every byte of a slice of an image. -/
theorem slice_all_iff {img : List Byte} {a len : Nat} (h : a + len ≤ img.length) (f : Byte → Bool) :
    ((img.drop a).take len).all f = true ↔ ∀ k, a ≤ k → k < a + len → f (byteAt img k) = true := by
  rw [List.all_eq_true]
  constructor
  · intro hall k h1 h2
    apply hall
    refine List.mem_of_getElem? (i := k - a) ?_
    rw [List.getElem?_take_of_lt (by omega), List.getElem?_drop, Nat.add_sub_cancel' h1, getElem?_byteAt (by omega)]
  · intro hall b hb
    obtain ⟨i, hi, rfl⟩ := List.mem_iff_getElem.mp hb
    have hlt : i < len := Nat.lt_of_lt_of_le hi (List.length_take_le _ _)
    have hb : ((img.drop a).take len)[i] = byteAt img (a + i) := by
      rw [List.getElem_take, List.getElem_drop]
      exact List.getElem_eq_getD _
    rw [hb]
    exact hall (a + i) (by omega) (by omega)

theorem nameTest_iff {img : List Byte} (h : img.length = 256) :
    ((img.take 12).all fun b => decide (0x20 ≤ b.toNat) && decide (b.toNat ≤ 0x7E)) = true ↔ FieldPasses img 1 := by
  have hs := slice_all_iff (img := img) (a := 0) (len := 12) (by omega)
    fun b => decide (0x20 ≤ b.toNat) && decide (b.toNat ≤ 0x7E)
  rw [List.drop_zero] at hs
  simp [hs, FieldPasses]

theorem fillClear_iff {img : List Byte} (h : img.length = 256) : fillClear img = true ↔ FieldPasses img 73 := by
  rw [fillClear, slice_all_iff (by omega)]
  simp [FieldPasses]

/-! ## All fields -/

/-- Each test of an image's profile decides its field. -/
theorem profileTest_iff {img : List Byte} (h : img.length = 256) :
    ∀ t ∈ profileTests (profileOfImage img), (t.2 = true ↔ FieldPasses img t.1) := by
  intro t ht
  rcases List.mem_append.mp ht with ht | ht
  · rw [profileTestsLow_eq, List.mem_cons, List.mem_map] at ht
    obtain rfl | ⟨row, hrow, rfl⟩ := ht
    · exact nameTest_iff h
    · exact rowTest_iff img (List.mem_append_left _ hrow)
  · rw [profileTestsHigh_eq, List.mem_map] at ht
    obtain ⟨row, hrow, rfl⟩ := ht
    have hhigh : row ∈ fieldRowsHigh := by
      rcases List.mem_append.mp hrow with hrow | hrow
      · obtain ⟨k, hk, hrow⟩ := List.mem_flatMap.mp hrow
        exact dwellRows_mem k hk row hrow
      · exact List.mem_of_mem_drop hrow
    rw [← rowTest_iff img (List.mem_append_right _ hhigh), rowTest,
      relationTest_high _ (number_of_highRow row hhigh), Bool.and_true]

/-- Each test of an image decides its field. -/
theorem imageTest_iff {img : List Byte} (h : img.length = 256) :
    ∀ t ∈ profileTests (profileOfImage img) ++ [(73, fillClear img)], (t.2 = true ↔ FieldPasses img t.1) := by
  intro t ht
  rcases List.mem_append.mp ht with ht | ht
  · exact profileTest_iff h t ht
  · obtain rfl := List.mem_singleton.mp ht
    exact fillClear_iff h

theorem profileTests_numbers (p : Profile) : (profileTests p).map Prod.fst = List.range' 1 72 := rfl

theorem imageTests_numbers (img : List Byte) :
    (profileTests (profileOfImage img) ++ [(73, fillClear img)]).map Prod.fst = List.range' 1 73 := rfl

theorem failingField_some_iff {img : List Byte} (h : img.length = 256) (n : Nat) :
    failingField img = some n ↔ 1 ≤ n ∧ n ≤ 73 ∧ ¬ FieldPasses img n ∧ ∀ m, 1 ≤ m → m < n → FieldPasses img m :=
  (find_failing_iff (imageTests_numbers img) (imageTest_iff h) n).trans (by rw [Nat.lt_succ_iff])

theorem failingField_none_iff {img : List Byte} (h : img.length = 256) :
    failingField img = none ↔ ∀ n, 1 ≤ n → n ≤ 73 → FieldPasses img n := by
  have hall := all_numbered_iff (imageTests_numbers img) (imageTest_iff h)
  rw [failingField, Option.map_eq_none_iff, List.find?_eq_none]
  simpa [Nat.lt_succ_iff] using hall

theorem profileValid_iff {img : List Byte} (h : img.length = 256) :
    profileValid (profileOfImage img) = true ↔ ∀ n, 1 ≤ n → n ≤ 72 → FieldPasses img n := by
  rw [profileValid, List.all_eq_true, all_numbered_iff (profileTests_numbers _) (profileTest_iff h)]
  simp only [show 1 + 72 = 72 + 1 from rfl, Nat.lt_succ_iff]

theorem imageCrcGood_iff (img : List Byte) :
    imageCrcGood img = true ↔ 256 * (byteAt img 254).toNat + (byteAt img 255).toNat = (crc16 (img.take 254)).toNat := by
  rw [imageCrcGood, beq_iff_eq, eq_comm]
  rfl

/-! ## A slot's state -/

theorem slotStateOf_bad_crc {img : List Byte} (h : imageCrcGood img = false) :
    slotStateOf (.bytes img) = .invalid .crc := by
  simp [slotStateOf, h]

theorem slotStateOf_good_crc {img : List Byte} (hl : img.length = 256) (h : imageCrcGood img = true) :
    slotStateOf (.bytes img) = (failingField img).elim .valid fun n => .invalid (.field n) := by
  cases hf : failingField img <;> simp [slotStateOf, imageLength, hl, h, hf]

theorem builtInProfile_valid : profileValid builtInProfile = true := by decide

/-- Settles O53: the tests of a profile are the rows of Tables 9-1 and 9-2 in ascending order, so the first that fails
names the failing field. -/
theorem imagesAreValidatedFieldByField : Obligations.ImagesAreValidatedFieldByField := by
  unfold Obligations.ImagesAreValidatedFieldByField
  refine ⟨fun img hl => ⟨failingField_some_iff hl, failingField_none_iff hl, profileValid_iff hl, imageCrcGood_iff img,
    slotStateOf_bad_crc, fun hcrc n hf => ?_, fun hcrc hf => ?_⟩, rfl, builtInProfile_valid⟩
  · rw [slotStateOf_good_crc hl hcrc, hf, Option.elim_some]
  · rw [slotStateOf_good_crc hl hcrc, hf, Option.elim_none]

end Sys2Proof.Machine
end

section
/-! PROOFS. Request taking's checks (R166), and the Control Link's own commands: SET_NOTICES, RESET, frames of no request
kind and frames that overlap a request in hand (R169, R172). -/

namespace Sys2Proof.Machine

section Taking

variable {dt length : Nat} {kind tag b : Byte} {body : List Byte} {s : State}

/-! ## Frames that overlap a request in hand -/

/-- The Control Link once a frame of this kind and tag has overlapped the request in hand (R166). -/
def overlappedLink (kind tag : Byte) (l : ControlLink) : ControlLink :=
  { l with
    receiver := .hunting
    overlap := match l.overlap with
      | some o => some o
      | none => some ⟨kind, tag, false⟩ }

theorem overlapSlot_link (kind tag : Byte) (s : State) :
    overlapSlot kind tag (setLinkReceiver .hunting s) = { s with link := overlappedLink kind tag s.link } := by
  cases ho : s.link.overlap <;> simp [overlapSlot, overlappedLink, setLinkReceiver, ho]

/-- A request that overlaps the one in hand is not looked at, whatever its kind and body. -/
theorem exec_request_overlaps {command : Nat → List Byte → List Byte → Instr}
    (hrow : (command, kind, length) ∈ requestTable) (hp : s.phase = .running) (hin : inLinkFrame s = true)
    (hh : s.link.inHand.isSome = true) (hl : body.length ≤ 248) :
    exec (requestOf command dt ⟨kind, tag, body⟩) s
      = .next { elapse dt s with link := overlappedLink kind tag s.link } := by
  obtain ⟨serve, hexec⟩ := exec_request hrow
  calc exec (requestOf command dt ⟨kind, tag, body⟩) s
      = .next (whileRunning (takeRequest kind length serve (frameTail ⟨kind, tag, body⟩)) (elapse dt s)) := hexec _ _ _ _
    _ = _ := by rw [takeRequest_overlap hp hin hh hl, overlapSlot_link]; rfl

/-- A good frame of any kind overlaps the request in hand. -/
theorem exec_overlapFrame (hp : s.phase = .running) (hin : inLinkFrame s = true) {x : InHand}
    (hh : s.link.inHand = some x) (hl : body.length ≤ 248) :
    exec (.overlapFrame dt (frameHead ⟨kind, tag, body⟩) body (frameCrc ⟨kind, tag, body⟩)) s
      = .next { elapse dt s with link := overlappedLink kind tag s.link } := by
  show Host.Outcome.next (whileRunning (takeOverlap (frameTail ⟨kind, tag, body⟩)) (elapse dt s)) = _
  have hreceiving : inLinkFrame (elapse dt s) = true := hin
  have hhand : (setLinkReceiver .hunting (elapse dt s)).link.inHand = some x := hh
  rw [whileRunning_running hp]
  simp only [takeOverlap, readFrame_frameTail ⟨kind, tag, body⟩ hl, hreceiving, elapse_link, hh, Option.isSome_some,
    Bool.and_true, if_true, receiveFrame, hhand, overlapSlot_link]

/-! ## Refusals -/

/-- A request refused with nothing else done leaves its refusal as the reply and the rest of the part as it was. -/
theorem refuse_unchanged {t : State} {why : Refused} {detail : List Byte} (hp : s.phase = .running)
    (ht : t = finish (produceReply kind tag (.refuse why detail) (requestState dt kind tag s))) :
    LinkFrame dt s t ∧ RequestTaken kind tag ⟨0xFE, tag, kind :: refusedCode why :: detail⟩ s.link.noticePending s t := by
  subst ht
  exact answer_unchanged hp fun _ => rfl

/-- The requests that name a chain are served through `serveChain` (Table 10-2). -/
theorem exec_chainRequest {row : (Nat → List Byte → List Byte → Instr) × Byte × Nat} (h : row ∈ chainRequestTable) :
    ∃ serve, ∀ dt inner crc s, exec (row.1 dt inner crc) s
      = .next (whileRunning (takeRequest row.2.1 row.2.2 (serveChain serve) (inner ++ crc)) (elapse dt s)) := by
  simp only [chainRequestTable, List.mem_cons, List.not_mem_nil, or_false] at h
  obtain rfl | rfl | rfl | rfl | rfl | rfl := h <;> exact ⟨_, fun _ _ _ _ => rfl⟩

theorem chainRequest_length {row : (Nat → List Byte → List Byte → Instr) × Byte × Nat} (h : row ∈ chainRequestTable) :
    row.2.2 ≤ 248 := by
  simp only [chainRequestTable, List.mem_cons, List.not_mem_nil, or_false] at h
  obtain rfl | rfl | rfl | rfl | rfl | rfl := h <;> decide

theorem exec_request_badLength {command : Nat → List Byte → List Byte → Instr}
    (hrow : (command, kind, length) ∈ requestTable) (h : CanTake s) (hl : body.length ≤ 248)
    (hb : body.length ≠ length) :
    exec (requestOf command dt ⟨kind, tag, body⟩) s
      = .next (finish (produceReply kind tag (.refuse .badLength (bytes8 length)) (requestState dt kind tag s))) := by
  obtain ⟨serve, hexec⟩ := exec_request hrow
  exact (hexec _ _ _ _).trans (congrArg Host.Outcome.next (takeRequest_badLength h hl hb))

theorem exec_chainRequest_unnamed {command : Nat → List Byte → List Byte → Instr} {rest : List Byte}
    (hrow : (command, kind, length) ∈ chainRequestTable) (h : CanTake s) (hb : (b :: rest).length = length)
    (hc : 4 ≤ b.toNat) :
    exec (requestOf command dt ⟨kind, tag, b :: rest⟩) s
      = .next (finish (produceReply kind tag (.refuse .designation [b]) (requestState dt kind tag s))) := by
  obtain ⟨serve, hexec⟩ := exec_chainRequest hrow
  have htaken := takeRequest_taken (dt := dt) (kind := kind) (tag := tag) (serve := serveChain serve) h
    (hb.trans_le (chainRequest_length hrow)) hb
  rw [serveChain_refused hc] at htaken
  exact (hexec _ _ _ _).trans (congrArg Host.Outcome.next htaken)

end Taking

/-- Settles O52: the length before the owner, the designation before all else the owner does, and no owner at all while a
request is in hand. -/
theorem requestsAreCheckedInOrder : Obligations.RequestsAreCheckedInOrder := by
  refine fun dt tag s hp hin => ⟨fun hfree => ?_, fun h command kind length hrow body hh hl => ?overlap⟩
  case overlap => exact exec_request_overlaps hrow hp hin (by rw [hh]; rfl) hl
  have h : CanTake s := ⟨hp, hin, hfree⟩
  refine ⟨fun command kind length hrow body hl hb => ⟨_, exec_request_badLength hrow h hl hb, refuse_unchanged hp rfl⟩,
    fun command kind length hrow b rest hb hc => ⟨_, exec_chainRequest_unnamed hrow h hb hc, refuse_unchanged hp rfl⟩,
    fun b hb => ⟨_, exec_loadBegin h, ?slot⟩, fun b persist hb hne => ⟨_, exec_activate h, ?designation⟩⟩
  case slot =>
    rw [serveLoadBegin_unnamed hb]
    exact refuse_unchanged hp rfl
  case designation =>
    rw [serveActivate_unnamed hb hne]
    exact refuse_unchanged hp rfl

section Own

variable {dt : Nat} {kind tag b : Byte} {body : List Byte} {s : State}

/-! ## SET_NOTICES (R169) -/

section Kept

variable {set : NoticeSet} {now since raised : Nat} {source : NoticeSource} {m : Message}

/-- A reply and a BUSY refusal on the line are sent on, whatever the mask. -/
theorem keptMessage_answer {item : TxItem} (h : item = .reply ∨ item = .busy) :
    keptMessage set now (some ⟨item, m, since⟩) = some ⟨item, m, since⟩ := by
  obtain rfl | rfl := h <;> rfl

/-- A notice is taken off the line where its flag was raised at this instant and its source is disabled. -/
theorem keptMessage_notice :
    keptMessage set now (some ⟨.notice source raised, m, since⟩)
      = if raised = now ∧ holdsSource set source = false then none else some ⟨.notice source raised, m, since⟩ := by
  by_cases hr : raised = now <;> cases hs : holdsSource set source <;> simp [keptMessage, hr, hs]

end Kept

@[simp] theorem holdsSource_chain (b : Byte) (c : ChainNo) :
    holdsSource (noticeSetOf b) (.chain c) = b.getLsbD c.val := Quad.get_ofFn _ c
@[simp] theorem holdsSource_site (b : Byte) : holdsSource (noticeSetOf b) .site = b.getLsbD 4 := rfl
@[simp] theorem holdsSource_capture (b : Byte) : holdsSource (noticeSetOf b) .capture = b.getLsbD 5 := rfl

/-- The message on the line after a SET_NOTICES, bit by bit of its mask. -/
theorem keptMessage_noticeSetOf (b : Byte) (now : Nat) (line : Option Transmission) :
    keptMessage (noticeSetOf b) now line = match line with
      | some ⟨.notice source raised, m, since⟩ =>
        if raised = now ∧ (match source with
            | .chain c => b.getLsbD c.val
            | .site => b.getLsbD 4
            | .capture => b.getLsbD 5) = false then none
        else some ⟨.notice source raised, m, since⟩
      | line => line := by
  obtain _ | ⟨_ | _ | ⟨source, raised⟩, m, since⟩ := line
  case none => rfl
  case some.reply => exact keptMessage_answer (.inl rfl)
  case some.busy => exact keptMessage_answer (.inr rfl)
  case some.notice => cases source <;> simp [keptMessage_notice]

/-- The flags a SET_NOTICES keeps, bit by bit of its mask. -/
theorem keptFlags_noticeSetOf (b : Byte) (flags : NoticeFlags) :
    keptFlags (noticeSetOf b) flags
      = ⟨Quad.ofFn fun c => if b.getLsbD c.val then flags.chains.get c else none,
          if b.getLsbD 4 then flags.site else none, if b.getLsbD 5 then flags.capture else none⟩ := by
  simp only [keptFlags, noticeSetOf, Quad.get_ofFn]
  rfl

theorem exec_setNotices (h : CanTake s) :
    exec (requestOf .setNotices dt ⟨0x30, tag, [b]⟩) s
      = .next (finish (produceReply 0x30 tag (.accept [b &&& 0x3F])
          (replaceMask (noticeSetOf b) (requestState dt 0x30 tag s)))) :=
  congrArg Host.Outcome.next (takeRequest_taken h (by simp) rfl)

/-! ## RESET and the kinds of no request (R166, R172) -/

theorem exec_reset (h : CanTake s) :
    exec (requestOf .reset dt ⟨0x3F, tag, []⟩) s
      = .next (finish (produceReply 0x3F tag (.accept []) (requestState dt 0x3F tag s))) :=
  congrArg Host.Outcome.next (takeRequest_taken h (by simp) rfl)

theorem exec_unknownKind (h : CanTake s) (hk : kind ∉ requestKinds) (hl : body.length ≤ 248) :
    exec (.unknownKind dt (frameHead ⟨kind, tag, body⟩) body (frameCrc ⟨kind, tag, body⟩)) s
      = .next (finish (produceReply kind tag (.refuse .unknownKind []) (requestState dt kind tag s))) := by
  show Host.Outcome.next (whileRunning (takeUnknown (frameTail ⟨kind, tag, body⟩)) (elapse dt s)) = _
  have hin : inLinkFrame (elapse dt s) = true := h.received
  have hc : requestKinds.contains kind = false := by simpa using hk
  rw [whileRunning_running h.running]
  simp only [takeUnknown, readFrame_frameTail ⟨kind, tag, body⟩ hl, hin, hc, Bool.not_false, Bool.and_true, if_true,
    receiveFrame_taken h]

end Own

/-- Settles O48: the mask with its flags and the message on the line, RESET's acceptance, the unknown kind and the
overlap. -/
theorem linkServesItsOwnRequests : Obligations.LinkServesItsOwnRequests := by
  refine fun dt tag s hp hin => ⟨fun hfree => ?_, fun h kind body hh hl => exec_overlapFrame hp hin hh hl⟩
  have h : CanTake s := ⟨hp, hin, hfree⟩
  refine ⟨fun b => ⟨_, exec_setNotices h, finish_linkFrame rfl, ?mask⟩,
    ⟨_, exec_reset h, answer_unchanged hp fun _ => rfl⟩,
    fun kind body hk hl => ⟨_, exec_unknownKind h hk hl, refuse_unchanged hp rfl⟩⟩
  refine (finish_link _ (by exact hp)).trans (congrArg (servedLink · _) ?_)
  simp only [produceReply, replaceMask, keptFlags_noticeSetOf, keptMessage_noticeSetOf]
  rfl

end Sys2Proof.Machine
end

section
/-! PROOFS. The end of a message on the transmit line (R166, R171, R172). -/

namespace Sys2Proof.Machine

section Sent

variable {dt since : Nat} {item : TxItem} {m : Message} {s : State}

/-- The Control Link freed by the end of a message (R166, R171). -/
def freedLink (item : TxItem) (l : ControlLink) : ControlLink :=
  { l with
    transmitting := none
    inHand := if item = .reply then none else l.inHand
    overlap :=
      match item with
      | .reply => l.overlap.map fun o => { o with ready := true }
      | .busy => none
      | .notice _ _ => l.overlap }

/-- The end of a message frees the line, and after RESET's acceptance the part is due to reset. -/
theorem messageSent_eq (item : TxItem) (m : Message) (since : Nat) (s : State) :
    messageSent ⟨item, m, since⟩ s = { s with
      phase := if item = .reply ∧ m.kind = resetAcceptance then .resetDue else s.phase
      link := freedLink item s.link } := by
  cases item <;> simp [messageSent, replySent, freedLink]

theorem exec_transmitComplete (hp : s.phase = .running) (ht : s.link.transmitting = some ⟨item, m, since⟩)
    (hs : (m.body.length + 6) * 10 * 1000000 ≤ (s.time + dt - since) * lineRate s.link) :
    exec (.transmitComplete dt) s = .next (finish (messageSent ⟨item, m, since⟩ (elapse dt s))) := by
  show Host.Outcome.next (whileRunning transmitEvent (elapse dt s)) = _
  have hsent : sentBy s.link ⟨item, m, since⟩ (s.time + dt) = true := decide_eq_true hs
  rw [whileRunning_running hp]
  simp only [transmitEvent, elapse_link, elapse_time, ht, hsent, if_true]

/-- What finishes an event in a part that is not running starts no message. -/
theorem finish_link_stopped (h : s.phase ≠ .running) : (finish s).link = s.link := by
  have hstopped : startTransmit (driveLines s) = driveLines s := startTransmit_stopped _ h
  rw [finish, hstopped]
  rfl

end Sent

/-- Settles O49: the line is freed, and what finishes the event serves it in R171's order, but for a part due to reset. -/
theorem transmitLineServesInOrder : Obligations.TransmitLineServesInOrder := by
  intro dt since item m s hp ht hs
  have hexec := exec_transmitComplete hp ht hs
  have hsent := messageSent_eq item m since (elapse dt s)
  generalize messageSent ⟨item, m, since⟩ (elapse dt s) = u at hexec hsent
  have hphase : u.phase = if item = .reply ∧ m.kind = 0xBF then .resetDue else s.phase := congrArg State.phase hsent
  have hlink : u.link = freedLink item s.link := congrArg State.link hsent
  refine ⟨finish u, freedLink item s.link, hexec, ?frame, finish_lines u, rfl, ?starts⟩
  case frame =>
    rw [finish_frame]
    generalize linesOf u = lines
    rw [hsent]
    rfl
  case starts =>
    split
    · next hreset =>
      rw [if_pos hreset] at hphase
      exact ⟨(finish_phase u).trans hphase, (finish_link_stopped (by simp [hphase])).trans hlink⟩
    · next hgoes =>
      rw [if_neg hgoes, hp] at hphase
      exact ⟨(finish_phase u).trans hphase, (finish_link u hphase).trans (by rw [hlink])⟩

end Sys2Proof.Machine
end

section
/-! PROOFS. The bodies of replies and notices (R167, R170, Tables 10-2 and 10-5): masks bit by bit, a body's fields behind
its presence mask, and the fields of each record. -/

namespace Sys2Proof.Machine

/-! ## Masks -/

/-- The number a mask of flags spells, the first flag its lowest bit. -/
def maskValue (flags : List Bool) : Nat := flags.foldr Nat.bit 0

theorem maskValue_cons (b : Bool) (rest : List Bool) : maskValue (b :: rest) = Nat.bit b (maskValue rest) := rfl

theorem sum_powers_eq (flags : List Bool) (n : Nat) :
    ((flags.zipIdx n).map fun (b, k) => if b then 2 ^ k else 0).sum = 2 ^ n * maskValue flags := by
  induction flags generalizing n with
  | nil => rfl
  | cons b rest ih =>
    rw [List.zipIdx_cons, List.map_cons, List.sum_cons, ih, maskValue_cons, pow_succ]
    cases b
    · simp [Nat.bit, mul_assoc]
    · simp [Nat.bit]
      ring

theorem maskByte_eq (flags : List Bool) : maskByte flags = BitVec.ofNat 8 (maskValue flags) := by
  rw [maskByte, sum_powers_eq, pow_zero, one_mul]

theorem maskValue_testBit (flags : List Bool) (k : Nat) : (maskValue flags).testBit k = flags.getD k false := by
  induction flags generalizing k with
  | nil => simp [maskValue]
  | cons b rest ih =>
    cases k with
    | zero => simp [maskValue_cons]
    | succ k => rw [maskValue_cons, Nat.testBit_bit_succ, ih, List.getD_cons_succ]

/-- Bit `k` of a mask byte is its `k`-th flag. -/
theorem maskByte_getLsbD {k : Nat} (hk : k < 8) (flags : List Bool) :
    (maskByte flags).getLsbD k = flags.getD k false := by
  rw [maskByte_eq, BitVec.getLsbD_ofNat, maskValue_testBit]
  simp [hk]

/-- Flag `i` of a list stands in its `i / 8`-th eight at place `i % 8`. -/
theorem eighth_getD (flags : List Bool) (k i : Nat) (hi : i < 8) :
    ((flags.drop (8 * k)).take 8).getD i false = flags.getD (8 * k + i) false := by
  simp [List.getD_eq_getElem?_getD, hi]

theorem presenceMask_length (flags : List Bool) : (presenceMask flags).length = (flags.length + 7) / 8 := by
  simp [presenceMask]

/-- Bit `k` of a presence mask is its `k`-th flag, and a bit past the flags is zero (R167). -/
theorem presenceMask_bit (flags : List Bool) (k : Nat) :
    (byteAt (presenceMask flags) (k / 8)).getLsbD (k % 8) = flags.getD k false := by
  have hk : 8 * (k / 8) + k % 8 = k := Nat.div_add_mod k 8
  by_cases h : k / 8 < (flags.length + 7) / 8
  · have hbyte : byteAt (presenceMask flags) (k / 8) = maskByte ((flags.drop (8 * (k / 8))).take 8) := by
      simp [byteAt, presenceMask, List.getD_eq_getElem?_getD, h]
    have hlt : k % 8 < 8 := Nat.mod_lt _ (by decide)
    rw [hbyte, maskByte_getLsbD hlt, eighth_getD _ _ _ hlt, hk]
  · have hbyte : byteAt (presenceMask flags) (k / 8) = 0 :=
      List.getD_eq_default _ _ (by rw [presenceMask_length]; omega)
    rw [hbyte, List.getD_eq_default _ _ (by omega)]
    exact BitVec.getLsbD_zero

/-- A set of checks: the high byte holds the check of code 8, the low byte those of codes 0 to 7 (Table 10-5). -/
theorem checksBytes_bits (set : List Check) : ∃ hi lo : Byte, checksBytes set = [hi, lo]
    ∧ ∀ k x, allChecks[k]? = some x → ((if k < 8 then lo else hi).getLsbD (k % 8) = true ↔ x ∈ set) := by
  refine ⟨_, _, rfl, fun k x hx => ?_⟩
  have hflag : (allChecks.map fun x => set.contains x).getD k false = set.contains x := by
    rw [List.getD_eq_getElem?_getD, List.getElem?_map, hx]
    rfl
  have hk : k < 9 := (List.getElem?_eq_some_iff.mp hx).1
  rw [← List.contains_iff_mem, ← hflag]
  split
  · next hlow =>
    rw [maskByte_getLsbD (Nat.mod_lt _ (by decide)), Nat.mod_eq_of_lt hlow]
    simp [List.getD_eq_getElem?_getD, hlow]
  · next hhigh =>
    have h8 : k = 8 := by omega
    subst h8
    rw [maskByte_getLsbD (by decide)]
    rfl

/-! ## Bodies and their fields -/

@[simp] theorem presence_nil : presence [] = [] := rfl
@[simp] theorem presence_always (bs : List Byte) (l : List BodyField) : presence (.always bs :: l) = presence l := rfl
@[simp] theorem presence_optional {α : Type} (n : Nat) (enc : α → List Byte) (x : Option α) (l : List BodyField) :
    presence (optionalField n enc x :: l) = x.isSome :: presence l := by
  cases x <;> rfl

@[simp] theorem optBytes_some {α : Type} (n : Nat) (enc : α → List Byte) (a : α) : optBytes n enc (some a) = enc a := rfl
@[simp] theorem optBytes_none {α : Type} (n : Nat) (enc : α → List Byte) :
    optBytes n enc none = List.replicate n 0 := rfl

@[simp] theorem fieldBytes_always (bs : List Byte) : fieldBytes (.always bs) = bs := rfl
@[simp] theorem fieldBytes_optional {α : Type} (n : Nat) (enc : α → List Byte) (x : Option α) :
    fieldBytes (optionalField n enc x) = optBytes n enc x := by
  cases x <;> rfl

/-- The fields of a body one after another, behind its presence mask. -/
theorem bodyBytes_eq (l : List BodyField) : bodyBytes l = presenceMask (presence l) ++ l.flatMap fieldBytes := by
  rw [bodyBytes, List.flatMap_def]

/-! ## READ_STORE's slots and writes (R155, R161) -/

/-- The profile READ_STORE shows of a slot: that of a VALID one's image. -/
def shownProfile (st : SlotState) (cell : NvCell) : Option Profile :=
  match st, cell with
  | .valid, .bytes img => some (profileOfImage img)
  | _, _ => none

/-- The finding READ_STORE shows of a slot: that of an INVALID one. -/
def shownFinding (st : SlotState) : Option Finding :=
  match st with
  | .invalid f => some f
  | _ => none

theorem slotFields_eq (st : SlotState) (cell : NvCell) :
    slotFields st cell = [.always (bytes8 (slotStateCode st)), optionalField 12 (fun p => p.name) (shownProfile st cell),
      optionalField 2 (fun p => bytes16 p.revision) (shownProfile st cell),
      optionalField 2 findingBytes (shownFinding st)] := by
  cases st <;> cases cell <;> rfl

/-- The write in progress, if any, is of this kind. -/
def writesKind (f : NvWork → Bool) (n : NvController) : Bool := n.inProgress.any fun w => f w.work

theorem lockoutInProgress_eq (n : NvController) :
    lockoutInProgress n = writesKind (fun w => match w with | .lockout _ => true | _ => false) n := by
  obtain ⟨_, _, _, _ | ⟨_ | _ | _, _⟩⟩ := n <;> rfl

theorem directoryInProgress_eq (n : NvController) :
    directoryInProgress n = writesKind (fun w => match w with | .directory _ => true | _ => false) n := by
  obtain ⟨_, _, _, _ | ⟨_ | _ | _, _⟩⟩ := n <;> rfl

theorem slotInProgress_eq (n : NvController) :
    slotInProgress n = writesKind (fun w => match w with | .slot _ => true | _ => false) n := by
  obtain ⟨_, _, _, _ | ⟨_ | _ | _, _⟩⟩ := n <;> rfl

/-- Settles O54: each body is its fields behind its presence mask, an absent field zeros of its width. Where the statement
reads a field off the chain's mode or the load by a match of its own, the model's name for it unfolds to the same match. -/
theorem bodiesCarryTheirFields : Obligations.BodiesCarryTheirFields := by
  refine ⟨fun flags k => ⟨presenceMask_length flags, presenceMask_bit flags k⟩, checksBytes_bits,
    ⟨by decide, by decide, by decide⟩, fun s c => ?trips,
    fun s => ⟨fun previous good due h => ?search, fun pe misses h => ?locked⟩, fun q => ?capture, fun s => ?site,
    fun s c => ?chain, fun s => ?store, fun s c => ?chainNotice, fun s => ⟨rfl, rfl⟩,
    fun s => ⟨fun h => ?empty, fun x pre y h hx => ?records⟩⟩
  case trips => simp [tripsBody, List.flatMap_def, bytes8, entryAge, sinceTick]
  case search =>
    simp [timingBody, h, bodyBytes_eq, bytes8, trackerStateOf, trackerCode, periodUnits, tolerance]
  case locked =>
    simp [timingBody, h, bodyBytes_eq, bytes8, trackerStateOf, trackerCode, periodUnits, tolerance, halfWindow]
  case capture => simp [captureBytes, bodyBytes_eq]
  case site => simp [siteBody, bodyBytes_eq, statisticsBytes, lineLevelBytes, pulseCountBytes, List.flatMap_def]
  case chain =>
    simp only [chainBody, bodyBytes_eq, presence_always, presence_optional, presence_nil, List.flatMap_cons,
      List.flatMap_nil, fieldBytes_always, fieldBytes_optional, List.append_assoc, List.append_nil]
    rfl
  case store =>
    simp only [storeBody, slotFields_eq, lockoutInProgress_eq, directoryInProgress_eq, slotInProgress_eq, bodyBytes_eq,
      List.cons_append, List.nil_append, presence_always, presence_optional, presence_nil, List.flatMap_cons,
      List.flatMap_nil, fieldBytes_always, fieldBytes_optional, List.append_assoc, List.append_nil]
    cases s.store.load <;> rfl
  case chainNotice =>
    simp only [chainNotice, bodyBytes_eq, presence_always, presence_optional, presence_nil, List.flatMap_cons,
      List.flatMap_nil, fieldBytes_always, fieldBytes_optional, List.append_assoc, List.append_nil]
    rfl
  case empty =>
    simp only [captureNotice, h]
    rfl
  case records =>
    have hmask : presenceMask [true, true, true] = [0x07] := rfl
    simp only [captureNotice, h, hx, List.getLast?_concat, bodyBytes_eq]
    simp [hmask, bytes8]

end Sys2Proof.Machine
end

section
/-! PROOFS. One step by its queue of waiting commands: the front command is run, an empty queue idles (section 1.1). -/

namespace Sys2Proof.Machine

theorem step_of_pending_nil {s : State} (h : s.pending = []) : step s = .next s := by
  simp only [step, h]

theorem step_of_pending_cons {s : State} {c : Instr} {rest : List Instr} (h : s.pending = c :: rest) :
    step s = exec c (s.withPending rest) := by
  simp only [step, h]

/-- Settles O1: the two branches of the step, by what the queue holds. -/
theorem stepRunsFrontCommand : Obligations.StepRunsFrontCommand :=
  fun _ => ⟨fun _ _ => step_of_pending_cons, step_of_pending_nil⟩

end Sys2Proof.Machine
end
